-- ==== Sys2Proof/Word.lean ====
section
/-! DEFINITION. The bit vectors the spec treats as bits, and the Nat values read from them. -/

namespace Sys2Proof

/-- One byte of a frame, report or message. -/
abbrev Byte := BitVec 8

/-- A byte holding the low eight bits of a value. -/
abbrev byteOf (n : Nat) : Byte := BitVec.ofNat 8 n

/-- A 16-bit word: a generation (R60) or a green set (R14). -/
abbrev Word16 := BitVec 16

/-- A 32-bit count (R192). -/
abbrev Count := BitVec 32

end Sys2Proof
end

