-- ==== Sys2Proof/Config.lean ====
section
/-! DEFINITION. What the part fixes (capacities, marks, limits the spec gives as numbers) and the one free value. -/

namespace Sys2Proof.Config

/-- Which of several due events the engine takes first on an empty queue. The spec says of events that
meet that either may be taken first (R26, R48, R131, R159, R175, ...), so nothing constrains the choice;
the argument is the counter `State.freeCount`. DESIGN CHOICE, log 4 and log 7. -/
opaque freeChoice : Nat → Nat

/-- The local inbound queue holds up to 8 frames (R23). -/
def inboundCapacity : Nat := 8

/-- The frame store is 192 units of 16 bytes (02_corridor_ports_and_relay.md section 2.4). -/
def frameStoreUnits : Nat := 192

/-- The fill timer's period in tenths (R30). -/
def fillPeriod : Nat := 5

/-- The longest body of a link frame (R2). -/
def maxBody : Nat := 56

/-- A fault streak that reaches this value quarantines the line (R49). -/
def quarantineStreak : Nat := 8

/-- The retry count that ends a record (R108). -/
def retryLimit : Nat := 3

/-- The consecutive-timeout count that makes the controller UNRESPONSIVE (R156). -/
def timeoutLimit : Nat := 3

/-- The phase age in tenths at which the green set is no longer trusted (R142). -/
def phaseAgeLimit : Nat := 30

/-- What the service limit adds to the requested duration, in tenths (R147). -/
def serviceMargin : Nat := 50

/-- The last tenth of the day (R176). -/
def lastTenth : Nat := 863999

/-- The hop limit of a frame the engine composes for routing (R6). -/
def composedHopLimit : Nat := 63

/-- The vendor mark "SLPR", one byte each (R180). -/
def vendorMark : List Byte := [0x53, 0x4C, 0x50, 0x52]

/-- The part code (R180). -/
def partCode : Nat := 40

/-- The revision (R180). -/
def revision : Nat := 1

/-- The highest leaf of IDENTIFY (R180). -/
def highestLeaf : Nat := 3

/-- The most frames whose ALERT an engine may have queued, one a port (R197). -/
def maxAlerts : Nat := 2

end Sys2Proof.Config
end

