-- ==== Sys2Proof/Syntax.lean ====
section
/-! DEFINITION. The commands: one constructor of `Instr` for each row of spec/opcode_table.json, with what the
event carries. A row of the local frame handler carries nothing: it takes the frame at the head of the local
inbound queue (R175), and the frame holds the arguments (R191). -/

namespace Sys2Proof

/-- The two corridor ports. -/
inductive Port where
  | a
  | b
  deriving DecidableEq, Repr

/-- The partner of a port: port A's arrivals are relayed into port B's queue, and the other way round. -/
def Port.other : Port → Port
  | .a => .b
  | .b => .a

/-- A character on a corridor line or the phase line (R1): its data byte, and whether its stop bit was good. -/
structure SerialChar where
  data : Byte
  stopGood : Bool
  deriving DecidableEq, Repr

/-- A character on a beacon line (R11): its data byte, the parity bit as received (without meaning on a line set
to parity none), and whether its stop bit was good. -/
structure BeaconChar where
  data : Byte
  parityBit : Bool
  stopGood : Bool
  deriving DecidableEq, Repr

/-- The level of the controller-ready input. -/
inductive ReadyLevel where
  | busy
  | ready
  deriving DecidableEq, Repr

/-- How the report in assembly on a DRAINING line ends (R53): its ninth character is stored, being the last of
these characters, or it is cut off. -/
inductive ReportEnd where
  | ninth (chars : List BeaconChar)
  | cutOff
  deriving DecidableEq, Repr

/-- The commands, in the order of spec/opcode_table.json. -/
inductive Instr where
  | powerOn (straps : BitVec 6) (level : ReadyLevel)
  | resetPin (straps : BitVec 6) (level : ReadyLevel)
  | validFrame (p : Port) (chars : List SerialChar)
  | crcError (p : Port) (chars : List SerialChar)
  | lengthError (p : Port) (chars : List SerialChar)
  | corridorRxIdle (p : Port)
  | txStart (p : Port)
  | frameTxEnd (p : Port)
  | fillTimerExpiry (p : Port)
  | holdTimerExpiry (p : Port)
  | holdRepeatExpiry (p : Port)
  | silenceTimerExpiry (p : Port)
  | portDisable
  | portEnable
  | portReset
  | drainComplete (p : Port)
  | reportComplete (l : Fin 8) (chars : List BeaconChar)
  | beaconLineIdle (l : Fin 8)
  | lineDisable
  | lineEnable
  | lineDrainComplete (l : Fin 8) (how : ReportEnd)
  | reportTake
  | etaExpiry (r : Fin 24)
  | lifetimeExpiry (r : Fin 24)
  | holdOffExpiry (r : Fin 24)
  | evaluation
  | lockoutExpiry (ap : Fin 8)
  | readyLineChange (level : ReadyLevel)
  | phases (chars : List SerialChar)
  | accept (chars : List SerialChar)
  | start (chars : List SerialChar)
  | deny (chars : List SerialChar)
  | endService (chars : List SerialChar)
  | invalidMessage (chars : List SerialChar)
  | messageCutOff
  | messageTxEnd
  | phaseAgeExpiry
  | responseTimeout (k : Fin 4)
  | startLimitExpiry (k : Fin 4)
  | serviceLimitExpiry (k : Fin 4)
  | time
  | corridorTimeWrap
  | noticeReceive
  | unknownKind
  | unknownRequest
  | identify
  | readStatus
  | readTable
  | writeEntry
  | verifyTable
  | readRecords
  | readSlots
  | withdraw
  | readCounters
  | readAttention
  | commission
  | decommission
  | frameStart (p : Port) (more : List SerialChar)
  | reportStart (l : Fin 8) (parityBit : Bool) (more : List BeaconChar)
  | messageStart (more : List SerialChar)
  deriving DecidableEq, Repr

end Sys2Proof
end

