-- ==== Sys2Proof/WellFormed.lean ====
section
/-! DEFINITION. The checks a command's operands pass. A command that fails one names no event of the part: a frame,
report or message cannot end with no character, and one that has not ended has fewer characters than the whole
(R2, R12, R14). Port, line, approach, record-slot and call-slot numbers are in range by their types. -/

namespace Sys2Proof

/-- An item that ends, ends with a character. -/
def someChars {α : Type} (chars : List α) : Bool := !chars.isEmpty

/-- The characters behind a start byte that do not end the frame: a frame has at most 64 characters after it (R2). -/
def partialFrame (more : List SerialChar) : Bool := more.length < 64

/-- The characters behind the sync character that do not end the report: a report has 8 after it (R12). -/
def partialReport (more : List BeaconChar) : Bool := more.length < 8

/-- The characters behind the sync byte that do not end the message: a message has 7 after it (R14). -/
def partialMessage (more : List SerialChar) : Bool := more.length < 7

/-- The operand checks of each command. -/
def Instr.wellFormed : Instr → Bool
  | .validFrame _ chars => someChars chars
  | .crcError _ chars => someChars chars
  | .lengthError _ chars => someChars chars
  | .reportComplete _ chars => someChars chars
  | .lineDrainComplete _ (.ninth chars) => someChars chars
  | .lineDrainComplete _ .cutOff => true
  | .phases chars => someChars chars
  | .accept chars => someChars chars
  | .start chars => someChars chars
  | .deny chars => someChars chars
  | .endService chars => someChars chars
  | .invalidMessage chars => someChars chars
  | .frameStart _ more => partialFrame more
  | .reportStart _ _ more => partialReport more
  | .messageStart more => partialMessage more
  | .powerOn .. | .resetPin .. | .corridorRxIdle _ | .txStart _ | .frameTxEnd _ | .fillTimerExpiry _ => true
  | .holdTimerExpiry _ | .holdRepeatExpiry _ | .silenceTimerExpiry _ | .portDisable | .portEnable => true
  | .portReset | .drainComplete _ | .beaconLineIdle _ | .lineDisable | .lineEnable | .reportTake => true
  | .etaExpiry _ | .lifetimeExpiry _ | .holdOffExpiry _ | .evaluation | .lockoutExpiry _ => true
  | .readyLineChange _ | .messageCutOff | .messageTxEnd | .phaseAgeExpiry | .responseTimeout _ => true
  | .startLimitExpiry _ | .serviceLimitExpiry _ | .time | .corridorTimeWrap | .noticeReceive => true
  | .unknownKind | .unknownRequest | .identify | .readStatus | .readTable | .writeEntry => true
  | .verifyTable | .readRecords | .readSlots | .withdraw | .readCounters | .readAttention => true
  | .commission | .decommission => true

end Sys2Proof
end

