-- ==== Sys2Proof/Machine/State.lean ====
section
/-! DEFINITION. The state of the engine as plain data, the reasons a step can stop, and the machine after reset. -/

namespace Sys2Proof.Machine

/-! ### Corridor ports and relay (01_line_formats.md, 02_corridor_ports_and_relay.md) -/

/-- A link frame (R2): the header bytes as they stand on the line, less the body length byte (it is the length of the
body) and the CRC (it is computed, R3). The destination, source and hop limit bytes keep their upper two bits (R6). -/
structure LinkFrame where
  dest : Byte
  source : Byte
  kind : Byte
  hop : Byte
  tag : Byte
  body : List Byte
  deriving DecidableEq, Repr

/-- A frame in a transmit queue. `ownAlert` marks an ALERT this engine composed (R29, R199). -/
structure QueuedFrame where
  frame : LinkFrame
  ownAlert : Bool
  deriving DecidableEq, Repr

/-- A frame in the local inbound queue, with the port it was consumed on (R23, R178). -/
structure InboundFrame where
  port : Port
  frame : LinkFrame
  deriving DecidableEq, Repr

/-- A link-local frame that may be pending (R17). -/
inductive ControlFrame where
  | hold
  | resume
  deriving DecidableEq, Repr

/-- Where the frame on a transmit line came from (R28). -/
inductive TxOrigin where
  | control (c : ControlFrame)
  | queue
  | fill
  deriving DecidableEq, Repr

/-- The frame on a transmit line. -/
structure Sending where
  origin : TxOrigin
  frame : LinkFrame
  deriving DecidableEq, Repr

/-- A corridor frame receiver (R4), with the bytes stored and the damage mark of the frame in progress. -/
inductive Receiver where
  | hunt
  | header (hdr : List Byte) (damaged : Bool)
  | body (hdr body : List Byte) (damaged : Bool)
  | crc (hdr body crc : List Byte) (damaged : Bool)
  | quiet
  deriving DecidableEq, Repr

/-- Port states (R17). -/
inductive PortMode where
  | enabled
  | draining
  | disabled
  deriving DecidableEq, Repr

/-- The state of one corridor port (R17). A timer is `none` when stopped, else its tenths left. -/
structure PortState where
  mode : PortMode
  queue : List QueuedFrame
  pendingControl : Option ControlFrame
  held : Bool
  holding : Bool
  silent : Bool
  holdTimer : Option Nat
  holdRepeat : Option Nat
  silenceTimer : Option Nat
  fillTimer : Option Nat
  sending : Option Sending
  rxMarked : Bool
  txMarked : Bool
  receiver : Receiver
  deriving DecidableEq, Repr

/-! ### Beacon lines (03_beacon_lines_and_vehicle_reports.md) -/

/-- Report kinds (R12). -/
inductive ReportKind where
  | checkIn
  | checkOut
  | cancel
  deriving DecidableEq, Repr

/-- A report in a holding buffer (section 3.1). `direction` is true for direction 1; `lateness` is none when unknown. -/
structure Report where
  line : Fin 8
  kind : ReportKind
  vehicle : Nat
  route : Nat
  direction : Bool
  lateness : Option Int
  nearside : Bool
  suspect : Bool
  deriving DecidableEq, Repr

/-- A line's character assembler (R42), with the report in assembly in COLLECT. -/
inductive Assembler where
  | settle
  | seek
  | collect (chars : List Byte) (parityMark framingMark : Bool)
  deriving DecidableEq, Repr

/-- Line states (R41). -/
inductive LineMode where
  | enabled
  | draining
  | disabled
  | quarantined
  deriving DecidableEq, Repr

/-- The state of one beacon line (R41). The full flag is set exactly while `buffer` holds a report. -/
structure LineState where
  mode : LineMode
  assembler : Assembler
  buffer : Option Report
  streak : Nat
  deriving DecidableEq, Repr

/-! ### Loaded tables (04_loaded_tables.md) -/

/-- Service kinds. -/
inductive ServiceKind where
  | extend
  | early
  | jump
  deriving DecidableEq, Repr

/-- A set of service kinds. -/
structure KindSet where
  extend : Bool
  early : Bool
  jump : Bool
  deriving DecidableEq, Repr

/-- An APPROACH entry (section 4.3). A line or direction "none" and an absent address are `none`. -/
structure ApproachEntry where
  inUse : Bool
  phaseGroup : Nat
  checkIn : Option (Fin 8)
  checkOut : Option (Fin 8)
  kinds : KindSet
  travel : Nat
  dwell : Nat
  extension : Nat
  earlyDuration : Nat
  jumpDuration : Nat
  lockout : Nat
  rank : Nat
  downDirection : Option Port
  downAddress : Option Nat
  downTravel : Nat
  deriving DecidableEq, Repr

/-- A ROUTE entry (section 4.4). -/
structure RouteEntry where
  inUse : Bool
  route : Nat
  direction : Bool
  baseLevel : Nat
  late : List Nat
  cutOff : Option Nat
  excluded : Bool
  deriving DecidableEq, Repr

/-- Parity settings of a beacon line. -/
inductive Parity where
  | noParity
  | oddParity
  | evenParity
  deriving DecidableEq, Repr

/-- The settings of a beacon line (PARAMS fields 22 to 29). -/
structure LineSetting where
  parity : Parity
  suspectAccept : Bool
  deriving DecidableEq, Repr

/-- The flow-control settings of a port (PARAMS fields 11 to 16). -/
structure FlowSetting where
  on : Bool
  onThreshold : Nat
  offThreshold : Nat
  deriving DecidableEq, Repr

/-- The alert port (PARAMS field 20). -/
inductive AlertPort where
  | portA
  | portB
  | both
  deriving DecidableEq, Repr

/-- PARAMS (section 4.6). `unlisted` is none for REFUSE. -/
structure Params where
  window : Nat
  responseTimeout : Nat
  startLimit : Nat
  margin : Nat
  denyHoldOff : Nat
  checkInGrace : Nat
  noticeGrace : Nat
  unlisted : Option Nat
  floor : Nat
  split : Nat
  flowA : FlowSetting
  flowB : FlowSetting
  holdLimit : Nat
  silenceLimit : Nat
  alertMask : BitVec 13
  alertPort : AlertPort
  noticeMap : List (Nat × Fin 8)
  lines : Vector LineSetting 8
  deriving DecidableEq, Repr

/-- The four table generations (R60). -/
structure TableGens where
  approach : Word16
  route : Word16
  conflicts : Word16
  params : Word16
  deriving DecidableEq, Repr

/-! ### The request table (05_the_request_table.md) -/

/-- Why a record exists (R84). -/
inductive Basis where
  | forecast
  | suspect
  | confirmed
  deriving DecidableEq, Repr

/-- Where a record stands with the controller (R85). -/
inductive RecordState where
  | waiting
  | called
  | granted
  | serving
  deriving DecidableEq, Repr

/-- A request record (section 5.1). Its record slot is its place in the table. -/
structure Record where
  vehicle : Nat
  route : Nat
  direction : Bool
  approach : Fin 8
  basis : Basis
  upstream : Option Nat
  level : Nat
  lateness : Option Int
  state : RecordState
  eta : Nat
  lifetime : Nat
  holdOff : Option Nat
  retry : Nat
  excluded : KindSet
  callSlot : Option (Fin 4)
  created : Nat
  deriving DecidableEq, Repr

/-! ### Call slots (06_call_arbitration.md) and the phase port (07_the_phase_port.md) -/

/-- Slot states (section 6.1). -/
inductive SlotState where
  | idle
  | called
  | granted
  | serving
  | closing
  deriving DecidableEq, Repr

/-- Close causes (section 6.1). -/
inductive CloseCause where
  | checkout
  | withdraw
  | expired
  | preempt
  | timeout
  | startLimit
  | serviceLimit
  | retire
  deriving DecidableEq, Repr

/-- A call slot (section 6.1, R114). `members` are record slots in join order. -/
structure CallSlot where
  state : SlotState
  call : Option Nat
  approach : Option (Fin 8)
  kind : Option ServiceKind
  duration : Option Nat
  members : List (Fin 24)
  cause : Option CloseCause
  wasServing : Bool
  deriving DecidableEq, Repr

/-- Which timer of a slot runs (section 7.5). -/
inductive SlotTimerKind where
  | response
  | startLimit
  | serviceLimit
  deriving DecidableEq, Repr

/-- A running slot timer, with its tenths left. -/
structure SlotTimer where
  kind : SlotTimerKind
  left : Nat
  deriving DecidableEq, Repr

/-- Controller status (section 7.1). -/
structure Controller where
  ready : ReadyLevel
  unresponsive : Bool
  timeoutCount : Nat
  phaseKnown : Bool
  greenSet : Word16
  phaseAge : Nat
  deriving DecidableEq, Repr

/-- The engine's own message kinds (R14). -/
inductive OutKind where
  | call
  | cancel
  | release
  deriving DecidableEq, Repr

/-- A composed controller message (R16). `code` is the service kind of a CALL. -/
structure CtrlMessage where
  kind : OutKind
  call : Nat
  group : Nat
  code : Option ServiceKind
  duration : Nat
  deriving DecidableEq, Repr

/-- The phase port's message receiver (R15), with the bytes stored and the damage mark in COLLECT. -/
inductive MsgReceiver where
  | hunt
  | collect (bytes : List Byte) (damaged : Bool)
  deriving DecidableEq, Repr

/-! ### Modes, counters and attention (09, 10) -/

/-- Operating modes (R174). -/
inductive Mode where
  | unaddressed
  | standby
  | active
  deriving DecidableEq, Repr

/-- The counter bank (section 10.1), each set in reply order. -/
structure Counters where
  portA : Vector Count 12
  portB : Vector Count 12
  locals : Vector Count 4
  beacon : Vector (Vector Count 7) 8
  approach : Vector (Vector Count 16) 8
  controller : Vector Count 4
  notice : Vector Count 4
  deriving DecidableEq, Repr

/-- The rollover flags, one a group (R192). -/
structure RolloverFlags where
  portA : Bool
  portB : Bool
  locals : Bool
  beacon : Bool
  approach : Bool
  controller : Bool
  notice : Bool
  deriving DecidableEq, Repr

/-! ### The whole state -/

/-- Everything the spec gives the engine, and three fields of the model's own: the queue of waiting commands, the
counter of the free choice (log 7), and the mark that an ALERT is owed at the end of the event in course (log 13). -/
structure State where
  pending : List Instr
  freeCount : Nat
  rawStraps : BitVec 6
  address : BitVec 6
  mode : Mode
  corridorTime : Nat
  timeSet : Bool
  portA : PortState
  portB : PortState
  inbound : List InboundFrame
  lines : Vector LineState 8
  reportPointer : Fin 8
  approaches : Vector ApproachEntry 8
  approachGens : Vector Word16 8
  routes : Vector RouteEntry 64
  routeGens : Vector Word16 64
  conflicts : List (Fin 8 × Fin 8)
  params : Params
  tableGens : TableGens
  records : Vector (Option Record) 24
  slots : Vector CallSlot 4
  nextCall : Nat
  lockouts : Vector (Option Nat) 8
  evalDue : Bool
  controller : Controller
  msgReceiver : MsgReceiver
  output : List CtrlMessage
  slotTimers : Vector (Option SlotTimer) 4
  counters : Counters
  rollover : RolloverFlags
  conditions : BitVec 13
  alertCount : Nat
  alertDue : Bool
  deriving DecidableEq, Repr

/-- The reasons a step can stop with a fault. The spec names none: every event has an effect, and what goes wrong is
counted, raised as an attention condition or answered with a status. So nothing raises a fault (safe). -/
inductive Fault where
  deriving DecidableEq, Repr

/-- The reasons a step can be refused. -/
inductive Refusal where
  /-- Raised by an arm of `exec` for a row that has no meaning yet; no arm does (safe). -/
  | notModelled (mnemonic : String)
  deriving DecidableEq, Repr

/-! ### The machine after power-on or the reset pin -/

/-- A port after power-on or reset pin (R17, R4): the silence timer at the default silence limit of 20. -/
def PortState.reset : PortState :=
  { mode := .enabled, queue := [], pendingControl := none, held := false, holding := false, silent := false
    holdTimer := none, holdRepeat := none, silenceTimer := some 20, fillTimer := some Config.fillPeriod
    sending := none, rxMarked := false, txMarked := false, receiver := .quiet }

/-- A beacon line after power-on or reset pin (R41). -/
def LineState.reset : LineState :=
  { mode := .enabled, assembler := .settle, buffer := none, streak := 0 }

/-- No service kind. -/
def KindSet.empty : KindSet := { extend := false, early := false, jump := false }

/-- An APPROACH entry after power-on or reset pin (R61). -/
def ApproachEntry.reset : ApproachEntry :=
  { inUse := false, phaseGroup := 1, checkIn := none, checkOut := none, kinds := .empty, travel := 10, dwell := 0
    extension := 10, earlyDuration := 10, jumpDuration := 30, lockout := 0, rank := 0, downDirection := none
    downAddress := none, downTravel := 50 }

/-- A ROUTE entry after power-on or reset pin (R61). -/
def RouteEntry.reset : RouteEntry :=
  { inUse := false, route := 1, direction := false, baseLevel := 0, late := [], cutOff := none, excluded := false }

/-- PARAMS after power-on or reset pin: the defaults of section 4.6 (R61). -/
def Params.reset : Params :=
  { window := 2, responseTimeout := 10, startLimit := 200, margin := 2, denyHoldOff := 50, checkInGrace := 150
    noticeGrace := 100, unlisted := none, floor := 0, split := 96
    flowA := { on := false, onThreshold := 72, offThreshold := 40 }
    flowB := { on := false, onThreshold := 72, offThreshold := 40 }
    holdLimit := 50, silenceLimit := 20, alertMask := 0, alertPort := .portA, noticeMap := []
    lines := Vector.replicate 8 { parity := .noParity, suspectAccept := false } }

/-- A call slot in IDLE (R114). -/
def CallSlot.idle : CallSlot :=
  { state := .idle, call := none, approach := none, kind := none, duration := none, members := [], cause := none
    wasServing := false }

/-- Every counter 0 (R192). -/
def Counters.reset : Counters :=
  { portA := Vector.replicate 12 0, portB := Vector.replicate 12 0, locals := Vector.replicate 4 0
    beacon := Vector.replicate 8 (Vector.replicate 7 0), approach := Vector.replicate 8 (Vector.replicate 16 0)
    controller := Vector.replicate 4 0, notice := Vector.replicate 4 0 }

/-- Every rollover flag clear (R192). -/
def RolloverFlags.reset : RolloverFlags :=
  { portA := false, portB := false, locals := false, beacon := false, approach := false, controller := false
    notice := false }

/-- The mode the straps set (R173): 1 to 62 give STANDBY, 0 and 63 UNADDRESSED. -/
def strapMode (straps : BitVec 6) : Mode :=
  if straps = 0 ∨ straps = 63 then .unaddressed else .standby

/-- The machine right after power-on or the reset pin with these straps and this ready level (R17, R23, R41, R55, R61,
R86, R115, R116, R138, R173, R192, R195, R197), and the model's own queue and free-choice counter as given. -/
def State.afterReset (straps : BitVec 6) (level : ReadyLevel) (pending : List Instr) (freeCount : Nat) : State :=
  { pending := pending, freeCount := freeCount, rawStraps := straps, address := straps, mode := strapMode straps
    corridorTime := 0, timeSet := false, portA := .reset, portB := .reset, inbound := []
    lines := Vector.replicate 8 .reset, reportPointer := 7
    approaches := Vector.replicate 8 .reset, approachGens := Vector.replicate 8 0
    routes := Vector.replicate 64 .reset, routeGens := Vector.replicate 64 0
    conflicts := [], params := .reset, tableGens := { approach := 0, route := 0, conflicts := 0, params := 0 }
    records := Vector.replicate 24 none, slots := Vector.replicate 4 .idle, nextCall := 1
    lockouts := Vector.replicate 8 none, evalDue := false
    controller := { ready := level, unresponsive := false, timeoutCount := 0, phaseKnown := false, greenSet := 0
                    phaseAge := Config.phaseAgeLimit }
    msgReceiver := .hunt, output := [], slotTimers := Vector.replicate 4 none
    counters := .reset, rollover := .reset, conditions := 0, alertCount := 0, alertDue := false }

/-- The machine right after reset. The straps and the ready level come from outside the part; here both take the value
zero (straps 0, the level BUSY): DESIGN CHOICE, log 6. POWER_ON and RESET_PIN carry any other. -/
def State.reset : State := State.afterReset 0 .busy [] 0

end Sys2Proof.Machine
end

