-- ==== Sys2Proof/Machine/Flags.lean ====
section
/-! DEFINITION. The counter bank and the attention conditions (10_counters_and_attention.md): counting, rollover flags,
raising, and the ALERT owed. -/

namespace Sys2Proof.Machine

/-! ### Counter names, in reply order (section 10.1) -/

/-- Counters of PORT_A and PORT_B. -/
inductive PortCounter where
  | rxGood | rxCrcErr | rxLengthErr | rxWhileDisabled | txFrames | relayDroppedFull | relayBlocked | hopExpired
  | holdsSent | holdsReceived | holdExpiries | flushed
  deriving DecidableEq, Repr

/-- Counters of LOCAL. -/
inductive LocalCounter where
  | inboundDropped | unknownKind | repliesDropped | reportsDroppedFull
  deriving DecidableEq, Repr

/-- Counters of a BEACON line. -/
inductive BeaconCounter where
  | reportsGood | parityErr | framingErr | checksumErr | overruns | suspectAccepted | unmapped
  deriving DecidableEq, Repr

/-- Counters of an approach: the activity half (8), then the outcome half (8). -/
inductive ApproachCounter where
  | checkIns | checkOuts | noticesIn | calls | accepts | denies | preemptions | overrides
  | served | cleared | expired | refused | withdrawn | displaced | abandoned | retired
  deriving DecidableEq, Repr

/-- Counters of CONTROLLER. -/
inductive ControllerCounter where
  | timeouts | strayMessages | badMessages | unresponsiveEntries
  deriving DecidableEq, Repr

/-- Counters of NOTICE. -/
inductive NoticeCounter where
  | noticesSent | noticesUnsent | noticesUnmapped | noticesLate
  deriving DecidableEq, Repr

/-- The place of a port counter in its set. -/
def PortCounter.index : PortCounter → Fin 12
  | .rxGood => 0 | .rxCrcErr => 1 | .rxLengthErr => 2 | .rxWhileDisabled => 3 | .txFrames => 4
  | .relayDroppedFull => 5 | .relayBlocked => 6 | .hopExpired => 7 | .holdsSent => 8 | .holdsReceived => 9
  | .holdExpiries => 10 | .flushed => 11

/-- The place of a LOCAL counter in its set. -/
def LocalCounter.index : LocalCounter → Fin 4
  | .inboundDropped => 0 | .unknownKind => 1 | .repliesDropped => 2 | .reportsDroppedFull => 3

/-- The place of a BEACON counter in its set. -/
def BeaconCounter.index : BeaconCounter → Fin 7
  | .reportsGood => 0 | .parityErr => 1 | .framingErr => 2 | .checksumErr => 3 | .overruns => 4
  | .suspectAccepted => 5 | .unmapped => 6

/-- The place of an approach counter: 0 to 7 activity, 8 to 15 outcomes. -/
def ApproachCounter.index : ApproachCounter → Fin 16
  | .checkIns => 0 | .checkOuts => 1 | .noticesIn => 2 | .calls => 3 | .accepts => 4 | .denies => 5
  | .preemptions => 6 | .overrides => 7 | .served => 8 | .cleared => 9 | .expired => 10 | .refused => 11
  | .withdrawn => 12 | .displaced => 13 | .abandoned => 14 | .retired => 15

/-- The place of a CONTROLLER counter in its set. -/
def ControllerCounter.index : ControllerCounter → Fin 4
  | .timeouts => 0 | .strayMessages => 1 | .badMessages => 2 | .unresponsiveEntries => 3

/-- The place of a NOTICE counter in its set. -/
def NoticeCounter.index : NoticeCounter → Fin 4
  | .noticesSent => 0 | .noticesUnsent => 1 | .noticesUnmapped => 2 | .noticesLate => 3

/-- One counter of the bank. -/
inductive CounterRef where
  | port (p : Port) (c : PortCounter)
  | loc (c : LocalCounter)
  | beacon (l : Fin 8) (c : BeaconCounter)
  | approach (ap : Fin 8) (c : ApproachCounter)
  | controller (c : ControllerCounter)
  | notice (c : NoticeCounter)
  deriving DecidableEq, Repr

/-- The groups (section 10.1). -/
inductive Group where
  | portA | portB | locals | beacon | approach | controller | notice
  deriving DecidableEq, Repr

/-- The group of a counter. -/
def CounterRef.group : CounterRef → Group
  | .port .a _ => .portA
  | .port .b _ => .portB
  | .loc _ => .locals
  | .beacon _ _ => .beacon
  | .approach _ _ => .approach
  | .controller _ => .controller
  | .notice _ => .notice

/-- The value of a counter. -/
def Counters.get (cs : Counters) : CounterRef → Count
  | .port .a c => cs.portA[c.index]
  | .port .b c => cs.portB[c.index]
  | .loc c => cs.locals[c.index]
  | .beacon l c => cs.beacon[l][c.index]
  | .approach ap c => cs.approach[ap][c.index]
  | .controller c => cs.controller[c.index]
  | .notice c => cs.notice[c.index]

/-- The bank with one counter given a value. -/
def Counters.put (cs : Counters) (ref : CounterRef) (v : Count) : Counters :=
  match ref with
  | .port .a c => { cs with portA := cs.portA.set c.index v }
  | .port .b c => { cs with portB := cs.portB.set c.index v }
  | .loc c => { cs with locals := cs.locals.set c.index v }
  | .beacon l c => { cs with beacon := cs.beacon.set l (cs.beacon[l].set c.index v) }
  | .approach ap c => { cs with approach := cs.approach.set ap (cs.approach[ap].set c.index v) }
  | .controller c => { cs with controller := cs.controller.set c.index v }
  | .notice c => { cs with notice := cs.notice.set c.index v }

/-- A group's rollover flag. -/
def RolloverFlags.get (f : RolloverFlags) : Group → Bool
  | .portA => f.portA | .portB => f.portB | .locals => f.locals | .beacon => f.beacon
  | .approach => f.approach | .controller => f.controller | .notice => f.notice

/-- The flags with one group's given a value. -/
def RolloverFlags.put (f : RolloverFlags) (g : Group) (b : Bool) : RolloverFlags :=
  match g with
  | .portA => { f with portA := b }
  | .portB => { f with portB := b }
  | .locals => { f with locals := b }
  | .beacon => { f with beacon := b }
  | .approach => { f with approach := b }
  | .controller => { f with controller := b }
  | .notice => { f with notice := b }

/-! ### Attention conditions (section 10.3) -/

/-- The 13 attention conditions. -/
inductive Condition where
  | linkCrc | linkDrop | holdExpired | neighborSilent | beaconFault | beaconOverrun | tableFull
  | controllerUnresponsive | serviceOverride | phaseStatusLost | noticeUnsent | counterRollover | inboundFull
  deriving DecidableEq, Repr

/-- The number of a condition, which is its bit in the mask and in the set. -/
def Condition.number : Condition → Nat
  | .linkCrc => 0 | .linkDrop => 1 | .holdExpired => 2 | .neighborSilent => 3 | .beaconFault => 4
  | .beaconOverrun => 5 | .tableFull => 6 | .controllerUnresponsive => 7 | .serviceOverride => 8
  | .phaseStatusLost => 9 | .noticeUnsent => 10 | .counterRollover => 11 | .inboundFull => 12

/-- The set that holds one condition. -/
def Condition.bit (c : Condition) : BitVec 13 := BitVec.twoPow 13 c.number

/-- Whether a condition is in a set. -/
def hasCondition (set : BitVec 13) (c : Condition) : Bool := set.getLsbD c.number

/-- The alert-pending flag: set while the alert count is above 0 (R197). -/
def State.alertPending (s : State) : Bool := 0 < s.alertCount

/-- Raising a condition (R195, R198): a condition already set stays as it is; one that rises is set, and if it is in the
alert mask and the alert-pending flag is clear, an ALERT is owed at the end of the event. -/
def State.raise (s : State) (c : Condition) : State :=
  if hasCondition s.conditions c then s
  else
    { s with
      conditions := s.conditions ||| c.bit
      alertDue := s.alertDue || (hasCondition s.params.alertMask c && !s.alertPending) }

/-- Counting (R192): the counter rises by one; when it wraps to 0 its group's rollover flag is set, and
COUNTER_ROLLOVER is raised if that flag was clear. -/
def State.count (s : State) (ref : CounterRef) : State :=
  let v := s.counters.get ref + 1
  let s' := { s with counters := s.counters.put ref v }
  if v = 0 then
    if s.rollover.get ref.group then s'
    else ({ s' with rollover := s.rollover.put ref.group true }).raise .counterRollover
  else s'

end Sys2Proof.Machine
end

