-- ==== Sys2Proof/Machine/Operands.lean ====
section
/-! DEFINITION. The formats on the lines and in frame bodies (01_line_formats.md, 09 section 9.8): the frame, report and
message receivers, the fields read from their bytes, and the bytes of what the engine composes. -/

namespace Sys2Proof.Machine

/-! ### Multi-byte fields, high byte first (R2, R9, R189) -/

/-- Byte `i` of a body as a number; 0 past its end. -/
def byteAt (bytes : List Byte) (i : Nat) : Nat := (bytes.getD i 0).toNat

/-- The 16-bit value at an offset. -/
def word16At (bytes : List Byte) (i : Nat) : Nat := byteAt bytes i * 256 + byteAt bytes (i + 1)

/-- The 24-bit value at an offset. -/
def word24At (bytes : List Byte) (i : Nat) : Nat := word16At bytes i * 256 + byteAt bytes (i + 2)

/-- The first of two 12-bit values that share three bytes (R189). -/
def first12At (bytes : List Byte) (i : Nat) : Nat := byteAt bytes i * 16 + byteAt bytes (i + 1) / 16

/-- The second of two 12-bit values that share three bytes (R189). -/
def second12At (bytes : List Byte) (i : Nat) : Nat := byteAt bytes (i + 1) % 16 * 256 + byteAt bytes (i + 2)

/-- A 16-bit value as two bytes. -/
def bytes16 (n : Nat) : List Byte := [byteOf (n / 256), byteOf n]

/-- A 24-bit value as three bytes. -/
def bytes24 (n : Nat) : List Byte := [byteOf (n / 65536), byteOf (n / 256), byteOf n]

/-- A 32-bit value as four bytes. -/
def bytes32 (n : Nat) : List Byte := [byteOf (n / 16777216), byteOf (n / 65536), byteOf (n / 256), byteOf n]

/-- Two 12-bit values as three bytes (R189). -/
def pair12 (x y : Nat) : List Byte := [byteOf (x / 16), byteOf (x % 16 * 16 + y / 256), byteOf y]

/-- A bit as a number. -/
def bit (b : Bool) : Nat := if b then 1 else 0

/-- The value of the low six bits of a byte (R6). -/
def low6 (b : Byte) : Nat := b.toNat % 64

/-- A lateness byte (R9, R12): signed, 80h meaning unknown. -/
def readLateness (n : Nat) : Option Int := if n = 128 then none else some (BitVec.ofNat 8 n).toInt

/-- A lateness as a byte (R164, R189): 80h when unknown. -/
def writeLateness : Option Int → Byte
  | none => 0x80
  | some x => BitVec.ofInt 8 x

/-- The route number of a route word (R10). -/
def routeNumber (w : Nat) : Nat := w / 4

/-- The direction of a route word (R10). -/
def routeDirection (w : Nat) : Bool := w / 2 % 2 = 1

/-- The spare of a route word (R10). -/
def routeSpare (w : Nat) : Nat := w % 2

/-- A composed route word, with spare 0 (R10). -/
def routeWord (route : Nat) (direction : Bool) : Nat := route * 4 + bit direction * 2

/-! ### Link frames (section 1.1) -/

/-- Kind values (R8). -/
def kindFill : Byte := 0x00
def kindHold : Byte := 0x01
def kindResume : Byte := 0x02
def kindTime : Byte := 0x03
def kindNotice : Byte := 0x04
def kindRequest : Byte := 0x05
def kindReply : Byte := 0x06
def kindAlert : Byte := 0x07

/-- One bit of the CRC register's shift: the register moves up one place, and the generator x^16+x^12+x^5+1 is added
when the bit that leaves differs from the bit that enters (R3). -/
def crcBit (reg : Word16) (entering : Bool) : Word16 :=
  if reg.msb != entering then (reg <<< 1) ^^^ 0x1021 else reg <<< 1

/-- A byte enters the register, most significant bit first (R3). -/
def crcByte (reg : Word16) (b : Byte) : Word16 :=
  [7, 6, 5, 4, 3, 2, 1, 0].foldl (fun r i => crcBit r (b.getLsbD i)) reg

/-- The CRC of a list of bytes (R3). -/
def crc (bytes : List Byte) : Word16 := bytes.foldl crcByte 0xFFFF

/-- The two CRC bytes, high byte first (R3). -/
def crcBytes (bytes : List Byte) : List Byte := bytes16 (crc bytes).toNat

/-- The header and body bytes of a frame, in the order they are sent (R2). -/
def LinkFrame.content (f : LinkFrame) : List Byte :=
  [f.dest, f.source, f.kind, f.hop, f.tag, byteOf f.body.length] ++ f.body

/-- The bytes of a frame on the line after its start byte (R2). -/
def LinkFrame.wire (f : LinkFrame) : List Byte := f.content ++ crcBytes f.content

/-- The frame length: 8 plus the body length (R2). -/
def LinkFrame.length (f : LinkFrame) : Nat := 8 + f.body.length

/-- The frame-store units of a frame of length L: ceil((L + 4) / 16) (R8). -/
def LinkFrame.units (f : LinkFrame) : Nat := (f.length + 4 + 15) / 16

/-- What the receiver hands its port (R5). -/
inductive RxResult where
  | valid (f : LinkFrame)
  | crcError
  | lengthError
  deriving DecidableEq, Repr

/-- A frame in progress at a port: its receiver is in HEADER, BODY or CRC (R18). -/
def Receiver.inProgress : Receiver → Bool
  | .header .. => true
  | .body .. => true
  | .crc .. => true
  | .hunt => false
  | .quiet => false

/-- The frame held in a whole header and body. -/
def frameOf (hdr body : List Byte) : LinkFrame :=
  { dest := hdr.getD 0 0, source := hdr.getD 1 0, kind := hdr.getD 2 0, hop := hdr.getD 3 0, tag := hdr.getD 4 0
    body := body }

/-- What the receiver does on a character (the two character columns of R4's table). -/
def Receiver.char (r : Receiver) (c : SerialChar) : Receiver × Option RxResult :=
  match r with
  | .hunt => if c.data = 0x7E ∧ c.stopGood then (.header [] false, none) else (.hunt, none)
  | .header hdr damaged =>
    let hdr' := hdr ++ [c.data]
    let damaged' := damaged || !c.stopGood
    if hdr'.length < 6 then (.header hdr' damaged', none)
    else if c.data.toNat = 0 then (.crc hdr' [] [] damaged', none)
    else if c.data.toNat ≤ Config.maxBody then (.body hdr' [] damaged', none)
    else (.quiet, some .lengthError)
  | .body hdr got damaged =>
    let got' := got ++ [c.data]
    let damaged' := damaged || !c.stopGood
    if got'.length < byteAt hdr 5 then (.body hdr got' damaged', none)
    else (.crc hdr got' [] damaged', none)
  | .crc hdr got check damaged =>
    let check' := check ++ [c.data]
    let damaged' := damaged || !c.stopGood
    if check'.length < 2 then (.crc hdr got check' damaged', none)
    else if damaged' = false ∧ check' = crcBytes (hdr ++ got) then (.hunt, some (.valid (frameOf hdr got)))
    else (.hunt, some .crcError)
  | .quiet => (.quiet, none)

/-- What the receiver does when its line lies idle for two byte-times (the idle column of R4's table). -/
def Receiver.idle (r : Receiver) : Receiver × Option RxResult :=
  if r.inProgress then (.hunt, some .crcError) else (.hunt, none)

/-- What comes of a run of characters: nothing ended, or an item ended with the last of them, or one ended before the
last. `ρ` is a receiver, `α` what it hands on. -/
inductive Run (ρ α : Type) where
  | going (r : ρ)
  | ended (r : ρ) (x : α)
  | overran
  deriving DecidableEq, Repr

/-- A receiver run over characters, one after another. -/
def runChars {ρ α γ : Type} (char : ρ → γ → ρ × Option α) (r : ρ) : List γ → Run ρ α
  | [] => .going r
  | c :: rest =>
    match char r c with
    | (r', none) => runChars char r' rest
    | (r', some x) => if rest.isEmpty then .ended r' x else .overran

/-! ### Beacon reports (section 1.2) -/

/-- The number of ones in a byte. -/
def onesIn (b : Byte) : Nat := ((List.range 8).filter (fun i => b.getLsbD i)).length

/-- The parity finding of a character under a line's parity setting (R11). -/
def parityError (p : Parity) (c : BeaconChar) : Bool :=
  match p with
  | .noParity => false
  | .oddParity => (onesIn c.data + bit c.parityBit) % 2 = 0
  | .evenParity => (onesIn c.data + bit c.parityBit) % 2 = 1

/-- A whole report in assembly: its nine characters and its two marks. -/
structure RawReport where
  chars : List Byte
  parityMark : Bool
  framingMark : Bool
  deriving DecidableEq, Repr

/-- What the assembler of an ENABLED or DRAINING line does on a character (R42's table). -/
def Assembler.char (p : Parity) (as : Assembler) (c : BeaconChar) : Assembler × Option RawReport :=
  match as with
  | .settle => (.settle, none)
  | .seek => if c.data = 0xC3 ∧ c.stopGood then (.collect [c.data] (parityError p c) false, none) else (.seek, none)
  | .collect chars parityMark framingMark =>
    let chars' := chars ++ [c.data]
    let parityMark' := parityMark || parityError p c
    let framingMark' := framingMark || !c.stopGood
    if chars'.length < 9 then (.collect chars' parityMark' framingMark', none)
    else (.seek, some { chars := chars', parityMark := parityMark', framingMark := framingMark' })

/-- The sum of bytes as unsigned numbers. -/
def sumBytes (bytes : List Byte) : Nat := (bytes.map BitVec.toNat).sum

/-- The report kind of a code (R12). -/
def reportKindOf : Nat → Option ReportKind
  | 1 => some .checkIn
  | 2 => some .checkOut
  | 3 => some .cancel
  | _ => none

/-- The report in nine characters when its data are valid (R13), with the fields of R12; `suspect` as given. -/
def readReport (line : Fin 8) (suspect : Bool) (chars : List Byte) : Option Report :=
  let word := word16At chars 4
  match reportKindOf (byteAt chars 1) with
  | none => none
  | some kind =>
    if byteAt chars 0 = 0xC3 ∧ word16At chars 2 ≠ 0 ∧ 1 ≤ routeNumber word ∧ routeNumber word ≤ 9999
        ∧ routeSpare word = 0 ∧ byteAt chars 7 / 2 = 0 ∧ sumBytes (chars.drop 1) % 256 = 0 then
      some { line := line, kind := kind, vehicle := word16At chars 2, route := routeNumber word
             direction := routeDirection word, lateness := readLateness (byteAt chars 6)
             nearside := byteAt chars 7 % 2 = 1, suspect := suspect }
    else none

/-! ### Controller messages (section 1.3) -/

/-- DENY reasons (R16). -/
inductive DenyReason where
  | notNow
  | never
  deriving DecidableEq, Repr

/-- END reasons (R16). -/
inductive EndReason where
  | normal
  | overridden
  | cancelled
  deriving DecidableEq, Repr

/-- What the message receiver hands the phase port (R15, R16). -/
inductive InMessage where
  | accept (call : Nat)
  | deny (call : Nat) (reason : DenyReason)
  | start (call : Nat)
  | endService (call : Nat) (reason : EndReason)
  | phases (green : Word16)
  | invalid
  deriving DecidableEq, Repr

/-- A complete message as it is handed on (R15 for validity, R16 for the fields). -/
def readMessage (bytes : List Byte) (damaged : Bool) : InMessage :=
  if damaged ∨ sumBytes (bytes.drop 1) % 256 ≠ 0 then .invalid
  else
    let call := byteAt bytes 2
    let code := byteAt bytes 4
    match byteAt bytes 1 with
    | 0x11 => .accept call
    | 0x12 => .deny call (if code = 2 then .never else .notNow)
    | 0x13 => .start call
    | 0x14 => .endService call (if code = 1 then .normal else if code = 3 then .cancelled else .overridden)
    | 0x15 => .phases (BitVec.ofNat 16 (word16At bytes 5))
    | _ => .invalid

/-- What the message receiver does on a character (R15). -/
def MsgReceiver.char (r : MsgReceiver) (c : SerialChar) : MsgReceiver × Option InMessage :=
  match r with
  | .hunt => if c.data = 0xA5 ∧ c.stopGood then (.collect [c.data] false, none) else (.hunt, none)
  | .collect bytes damaged =>
    let bytes' := bytes ++ [c.data]
    let damaged' := damaged || !c.stopGood
    if bytes'.length < 8 then (.collect bytes' damaged', none)
    else (.hunt, some (readMessage bytes' damaged'))

/-- The code of a service kind in a CALL (R14). -/
def ServiceKind.code : ServiceKind → Nat
  | .extend => 1
  | .early => 2
  | .jump => 3

/-- The value of a message kind (R14). -/
def OutKind.value : OutKind → Nat
  | .call => 1
  | .cancel => 2
  | .release => 3

/-- Bytes 1 to 6 of a composed message (R14, R16). -/
def CtrlMessage.fields (m : CtrlMessage) : List Byte :=
  [byteOf m.kind.value, byteOf m.call, byteOf m.group, byteOf ((m.code.map ServiceKind.code).getD 0)]
    ++ bytes16 m.duration

/-- The eight bytes of a composed message: byte 7 makes bytes 1 to 7 sum to 0 modulo 256 (R14, R16). -/
def CtrlMessage.bytes (m : CtrlMessage) : List Byte :=
  0xA5 :: m.fields ++ [byteOf (256 - sumBytes m.fields % 256)]

/-! ### Sets of service kinds (R189) -/

/-- Whether a kind is in a set. -/
def KindSet.has (k : KindSet) : ServiceKind → Bool
  | .extend => k.extend
  | .early => k.early
  | .jump => k.jump

/-- A set with a kind added. -/
def KindSet.add (k : KindSet) : ServiceKind → KindSet
  | .extend => { k with extend := true }
  | .early => { k with early := true }
  | .jump => { k with jump := true }

/-- A set as bits 2 to 0. -/
def KindSet.bits (k : KindSet) : Nat := bit k.extend + bit k.early * 2 + bit k.jump * 4

/-- The set in bits 2 to 0 of a value. -/
def KindSet.ofBits (n : Nat) : KindSet :=
  { extend := n % 2 = 1, early := n / 2 % 2 = 1, jump := n / 4 % 2 = 1 }

/-! ### Reply statuses (R178, R189) -/

/-- The statuses a reply may carry (R178). -/
inductive Status where
  | done | stale | isMatch | mismatch | rangeEnd | notFound | badArg | badState | inUse | duplicate | inconsistent
  | unknownRequest
  deriving DecidableEq, Repr

/-- The value of a status (R189). -/
def Status.value : Status → Nat
  | .done => 0x00 | .stale => 0x01 | .isMatch => 0x02 | .mismatch => 0x03 | .rangeEnd => 0x04 | .notFound => 0x05
  | .badArg => 0x06 | .badState => 0x07 | .inUse => 0x08 | .duplicate => 0x09 | .inconsistent => 0x0A
  | .unknownRequest => 0x0B

end Sys2Proof.Machine
end

