-- ==== Sys2Proof/Machine/Ops.lean ====
section
/-! DEFINITION. The named operations the meanings share: access to each register's home, the frame store and the
transmit queues (R25, R26), flow control (R32, R34), composing and offering ALERTs (R198, R199), the evaluation-due
mark (R116), and the end of an event. -/

namespace Sys2Proof.Machine

/-! ### Access -/

/-- A port's state. -/
def State.port (s : State) : Port → PortState
  | .a => s.portA
  | .b => s.portB

/-- A port's state replaced. -/
def State.setPort (s : State) (p : Port) (x : PortState) : State :=
  match p with
  | .a => { s with portA := x }
  | .b => { s with portB := x }

/-- A beacon line's state. -/
def State.line (s : State) (l : Fin 8) : LineState := s.lines[l]

/-- A beacon line's state replaced. -/
def State.setLine (s : State) (l : Fin 8) (x : LineState) : State := { s with lines := s.lines.set l x }

/-- An APPROACH entry. -/
def State.approach (s : State) (ap : Fin 8) : ApproachEntry := s.approaches[ap]

/-- A record slot's record. -/
def State.record (s : State) (r : Fin 24) : Option Record := s.records[r]

/-- A record slot given a record, or freed. -/
def State.setRecord (s : State) (r : Fin 24) (x : Option Record) : State := { s with records := s.records.set r x }

/-- A call slot. -/
def State.slot (s : State) (k : Fin 4) : CallSlot := s.slots[k]

/-- A call slot replaced. -/
def State.setSlot (s : State) (k : Fin 4) (x : CallSlot) : State := { s with slots := s.slots.set k x }

/-- A slot's timer. -/
def State.slotTimer (s : State) (k : Fin 4) : Option SlotTimer := s.slotTimers[k]

/-- A slot's timer started, replaced or stopped. -/
def State.setSlotTimer (s : State) (k : Fin 4) (t : Option SlotTimer) : State :=
  { s with slotTimers := s.slotTimers.set k t }

/-- An approach's lockout timer. -/
def State.lockout (s : State) (ap : Fin 8) : Option Nat := s.lockouts[ap]

/-- An approach's lockout timer started or stopped. -/
def State.setLockout (s : State) (ap : Fin 8) (t : Option Nat) : State := { s with lockouts := s.lockouts.set ap t }

/-- The record slots, call slots, approaches, lines and ports, in ascending order. -/
def recordSlots : List (Fin 24) := List.finRange 24
def callSlots : List (Fin 4) := List.finRange 4
def approachNumbers : List (Fin 8) := List.finRange 8
def lineNumbers : List (Fin 8) := List.finRange 8
def bothPorts : List Port := [.a, .b]

/-- A change made for each element of a list in turn. -/
def forEach {α : Type} (xs : List α) (f : α → State → State) (s : State) : State := xs.foldl (fun t x => f x t) s

/-! ### The evaluation-due mark (R116) -/

/-- The mark is set in mode ACTIVE alone. -/
def State.markDue (s : State) : State := if s.mode = .active then { s with evalDue := true } else s

/-! ### Frame store and flow control (sections 2.4 and 2.6) -/

/-- The units of the frames in a queue, the frame on the line included (R25). -/
def usedUnits (q : List QueuedFrame) : Nat := (q.map (fun f => f.frame.units)).sum

/-- The units a split gives each port's queue (R25). -/
def partitionOf (split : Nat) : Port → Nat
  | .a => Config.frameStoreUnits - split
  | .b => split

/-- A port's partition under the split in force. -/
def State.partition (s : State) (p : Port) : Nat := partitionOf s.params.split p

/-- A port's flow-control settings. -/
def Params.flow (ps : Params) : Port → FlowSetting
  | .a => ps.flowA
  | .b => ps.flowB

/-- The used units of the queue a port's arrivals feed: the other port's (section 2.6). -/
def State.fedUnits (s : State) (p : Port) : Nat := usedUnits (s.port p.other).queue

/-- A port's flow control is evaluated (R32, R34). -/
def State.evalFlow (s : State) (p : Port) : State :=
  let x := s.port p
  let fc := s.params.flow p
  if x.mode = .enabled then
    if x.holding then
      if fc.on = false ∨ s.fedUnits p ≤ fc.offThreshold then
        s.setPort p { x with holding := false, pendingControl := some .resume, holdRepeat := none }
      else s
    else if fc.on ∧ fc.onThreshold ≤ s.fedUnits p then
      s.setPort p { x with holding := true, pendingControl := some .hold, holdRepeat := some (s.params.holdLimit / 2) }
    else s
  else s

/-- Whether a frame fits a port's transmit queue (R26). -/
def State.fits (s : State) (p : Port) (f : LinkFrame) : Bool := f.units + usedUnits (s.port p).queue ≤ s.partition p

/-- A port's transmit queue changed, and the flow control of the port whose arrivals feed it evaluated (R32). -/
def State.setQueue (s : State) (p : Port) (q : List QueuedFrame) : State :=
  (s.setPort p { s.port p with queue := q }).evalFlow p.other

/-- A frame that fits is appended at the tail of a port's transmit queue; one that does not leaves the queue (R26). -/
def State.enqueue (s : State) (p : Port) (f : QueuedFrame) : State :=
  if s.fits p f.frame then s.setQueue p ((s.port p).queue ++ [f]) else s

/-! ### Frames the engine composes (R6) -/

/-- A frame composed by the engine; the upper two bits of its destination, source and hop limit bytes are 0 (R6). -/
def composeFrame (dest : Nat) (source : BitVec 6) (kind : Byte) (hop : Nat) (tag : Byte) (body : List Byte) : LinkFrame :=
  { dest := byteOf dest, source := source.setWidth 8, kind := kind, hop := byteOf hop, tag := tag, body := body }

/-- The source of a link-local frame: the junction address, or 0 in mode UNADDRESSED (R6). -/
def State.linkSource (s : State) : BitVec 6 := if s.mode = .unaddressed then 0 else s.address

/-- A HOLD or RESUME frame (R6, R9). -/
def State.controlFrame (s : State) (c : ControlFrame) : LinkFrame :=
  composeFrame 0 s.linkSource (match c with | .hold => kindHold | .resume => kindResume) 0 0 []

/-- A FILL frame (R6, R9). -/
def State.fillFrame (s : State) : LinkFrame := composeFrame 0 s.linkSource kindFill 0 0 []

/-- The ALERT composed from the state as it stands (R198). The condition set is sent high byte first, as R189 gives for
REQUEST and REPLY bodies: DEDUCED, log 28. -/
def State.alertFrame (s : State) : LinkFrame :=
  composeFrame 0 s.address kindAlert Config.composedHopLimit 0
    (bytes16 s.conditions.toNat ++ bytes24 s.corridorTime ++ [byteOf (bit s.timeSet)])

/-! ### ALERTs and the end of an event (section 10.4) -/

/-- The ports an ALERT is offered to. -/
def AlertPort.ports : AlertPort → List Port
  | .portA => [.a]
  | .portB => [.b]
  | .both => [.a, .b]

/-- One copy of an ALERT offered to a port: a copy that fits is appended and raises the alert count (R198). -/
def State.offerAlert (s : State) (f : LinkFrame) (p : Port) : State :=
  if s.fits p f then
    let s' := s.enqueue p { frame := f, ownAlert := true }
    { s' with alertCount := s'.alertCount + 1 }
  else s

/-- The end of an event: an ALERT owed is composed and offered (R198; after every other claim of the event, DEDUCED,
log 13). -/
def State.endEvent (s : State) : State :=
  if s.alertDue then
    let s' := { s with alertDue := false }
    forEach s.params.alertPort.ports (fun p t => t.offerAlert s'.alertFrame p) s'
  else s

/-- An ALERT of this engine has left a queue: the alert count falls by one (R199). -/
def State.alertGone (s : State) : State := { s with alertCount := s.alertCount - 1 }

/-! ### Outcomes of a meaning -/

/-- An event taken: its change, then the end of the event. -/
def taken (s : State) : Host.Outcome State Fault Refusal := .next s.endEvent

/-- A command that names an event the state does not allow: nothing happens (DESIGN CHOICE, log 2). -/
def noEvent (s : State) : Host.Outcome State Fault Refusal := .next s

end Sys2Proof.Machine
end

