-- ==== Sys2Proof/Machine/Slots.lean ====
section
/-! DEFINITION. What happens to call slots and their members, whoever causes it: placing a slot's message (R139, R153),
closing (R127, R130, R135), returning to IDLE with lockout (R132), returning members to WAITING (R108, R137), and
removing records (R109, R129, R130). -/

namespace Sys2Proof.Machine

/-- CALLED, GRANTED or SERVING: a slot that has members (R114). -/
def SlotState.isOpen : SlotState → Bool
  | .called => true
  | .granted => true
  | .serving => true
  | .idle => false
  | .closing => false

/-- The state of a slot's members (R85). -/
def SlotState.memberState : SlotState → RecordState
  | .called => .called
  | .granted => .granted
  | .serving => .serving
  | .idle => .waiting
  | .closing => .waiting

/-- The message composed for a slot, from its fields and the phase group of its approach's entry as it stands (R16, R139). -/
def State.compose (s : State) (kind : OutKind) (k : Fin 4) : CtrlMessage :=
  let x := s.slot k
  { kind := kind, call := x.call.getD 0, group := (x.approach.map (fun ap => (s.approach ap).phaseGroup)).getD 0
    code := if kind = .call then x.kind else none
    duration := if kind = .call then x.duration.getD 0 else 0 }

/-- The message is placed at the tail of the output (R139). -/
def State.place (s : State) (kind : OutKind) (k : Fin 4) : State := { s with output := s.output ++ [s.compose kind k] }

/-- The message is placed and the slot's RESPONSE timer started at the response timeout (R153). -/
def State.placeAndWait (s : State) (kind : OutKind) (k : Fin 4) : State :=
  (s.place kind k).setSlotTimer k (some { kind := .response, left := s.params.responseTimeout })

/-- What gives a call up: RELEASE once it is being served, CANCEL before (R127, R130). -/
def SlotState.givingUp : SlotState → OutKind
  | .serving => .release
  | .called => .cancel
  | .granted => .cancel
  | .idle => .cancel
  | .closing => .cancel

/-- An open slot goes to CLOSING with a cause: was serving is set from SERVING, the member list becomes empty, CANCEL or
RELEASE is placed and the RESPONSE timer started (R127, R130, R135, R154, R157, R158). -/
def State.closeSlot (s : State) (k : Fin 4) (cause : CloseCause) : State :=
  let x := s.slot k
  let x' := { x with state := .closing, cause := some cause, members := []
                     wasServing := x.wasServing || x.state = .serving }
  ((s.setSlot k x').placeAndWait x.state.givingUp k).markDue

/-- An approach's lockout is started from its entry; a lockout after service of 0 leaves it stopped (R132). -/
def State.startLockout (s : State) (ap : Fin 8) : State :=
  let v := (s.approach ap).lockout
  s.setLockout ap (if v = 0 then none else some v)

/-- A slot returns to IDLE: the lockout is started when was serving is set, the timer stops and the fields take their
IDLE values (R132). -/
def State.idleSlot (s : State) (k : Fin 4) : State :=
  let x := s.slot k
  let s1 := match x.wasServing, x.approach with
    | true, some ap => s.startLockout ap
    | true, none => s
    | false, _ => s
  ((s1.setSlot k .idle).setSlotTimer k none).markDue

/-- A member is returned to WAITING, with the hold-off and the kind to exclude its return carries (R106, R108). -/
def State.returnMember (s : State) (holdOff : Option Nat) (exclude : Option ServiceKind) (r : Fin 24) : State :=
  match s.record r with
  | none => s
  | some x =>
    let x1 := { x with state := .waiting, callSlot := none, retry := x.retry + 1 }
    if Config.retryLimit ≤ x1.retry then (s.setRecord r none).count (.approach x.approach .abandoned)
    else
      s.setRecord r (some
        { x1 with
          excluded := match exclude with
            | none => x1.excluded
            | some kind => x1.excluded.add kind
          holdOff := match holdOff with
            | none => x1.holdOff
            | some v => if v = 0 then none else some v })

/-- A slot's members are returned to WAITING, in member-list order (R137). -/
def State.returnMembers (s : State) (ms : List (Fin 24)) (holdOff : Option Nat) (exclude : Option ServiceKind) : State :=
  forEach ms (fun r t => t.returnMember holdOff exclude r) s

/-- A slot closes and returns its members with no hold-off and no kind excluded (R127, R154, R157, R158). -/
def State.closeReturning (s : State) (k : Fin 4) (cause : CloseCause) : State :=
  (s.closeSlot k cause).returnMembers (s.slot k).members none none

/-- A slot goes to IDLE and returns its members with what the ending carries (R148, R150). -/
def State.idleReturning (s : State) (k : Fin 4) (holdOff : Option Nat) (exclude : Option ServiceKind) : State :=
  (s.idleSlot k).returnMembers (s.slot k).members holdOff exclude

/-- The slot's state changes among CALLED, GRANTED and SERVING, and its members' states with it (R85). -/
def State.advanceSlot (s : State) (k : Fin 4) (st : SlotState) : State :=
  let x := s.slot k
  (forEach x.members
    (fun r t => match t.record r with
      | none => t
      | some y => t.setRecord r (some { y with state := st.memberState }))
    (s.setSlot k { x with state := st })).markDue

/-- A record is taken out of the table: its slot becomes free and the outcome is counted on its approach (R109). -/
def State.takeOut (s : State) (r : Fin 24) (outcome : ApproachCounter) : State :=
  match s.record r with
  | none => s
  | some x => (s.setRecord r none).count (.approach x.approach outcome)

/-- A member leaves its slot; an open slot it leaves empty is closed with the cause (R129, R130). -/
def State.leaveSlot (s : State) (k : Fin 4) (r : Fin 24) (cause : CloseCause) : State :=
  let x := s.slot k
  let ms := x.members.filter (fun m => m ≠ r)
  if ms.isEmpty ∧ x.state.isOpen then s.closeSlot k cause
  else s.setSlot k { x with members := ms }

/-- A record is removed with an outcome, and leaves its call slot if it is a member (R109, R129). -/
def State.removeRecord (s : State) (r : Fin 24) (outcome : ApproachCounter) (cause : CloseCause) : State :=
  match s.record r with
  | none => s
  | some x =>
    match x.callSlot with
    | none => s.takeOut r outcome
    | some k => (s.takeOut r outcome).leaveSlot k r cause

end Sys2Proof.Machine
end

