-- ==== Sys2Proof/Machine/Tables.lean ====
section
/-! DEFINITION. The loaded tables: the layouts of their entries (R190), their checks (R66, R67, R70, R71, R74, R76, R77,
R185), and the level computation (R73). A `Raw...` entry holds the numbers as they stand in the bytes, in range or
not; the checks judge it, and one that passes names an entry. -/

namespace Sys2Proof.Machine

/-- Check codes (R63, R185, R189). -/
inductive CheckCode where
  | fieldRange | fieldForm | thresholdOrder | lineRole | ownAddress | pairForm | flowOrder | flowPartition
  | mapDuplicate | noApproach | entryCheck | roleClash | mapTarget | conflictTarget
  deriving DecidableEq, Repr

/-- The value of a check code (R189). -/
def CheckCode.value : CheckCode → Nat
  | .fieldRange => 0x01 | .fieldForm => 0x02 | .thresholdOrder => 0x03 | .lineRole => 0x04 | .ownAddress => 0x05
  | .pairForm => 0x06 | .flowOrder => 0x07 | .flowPartition => 0x08 | .mapDuplicate => 0x09 | .noApproach => 0x0A
  | .entryCheck => 0x0B | .roleClash => 0x0C | .mapTarget => 0x0D | .conflictTarget => 0x0E

/-- A check that failed, with the index its reply carries. -/
abbrev Failure := CheckCode × Nat

/-- One check: whether it fails, and what it then reports. -/
abbrev Check := Bool × Failure

/-- The first of a list of checks that fails (R63). -/
def firstFailure (checks : List Check) : Option Failure := (checks.find? (fun c => c.1)).map (fun c => c.2)

/-- A field outside its range. -/
def outside (field lo hi n : Nat) : Check := (decide (n < lo ∨ hi < n), .fieldRange, field)

/-! ### APPROACH entries -/

/-- An APPROACH entry as the numbers in its 14 bytes (R190). -/
structure RawApproach where
  inUse : Nat
  rank : Nat
  kinds : Nat
  checkIn : Nat
  checkOut : Nat
  phaseGroup : Nat
  downDirection : Nat
  downAddress : Nat
  jumpDuration : Nat
  travel : Nat
  dwell : Nat
  extension : Nat
  earlyDuration : Nat
  lockout : Nat
  downTravel : Nat
  deriving DecidableEq, Repr

/-- The numbers in the bytes; bits shown as 0 are ignored (R190). -/
def RawApproach.ofBytes (b : List Byte) : RawApproach :=
  { inUse := byteAt b 0 / 128, rank := byteAt b 0 / 16 % 8, kinds := byteAt b 0 % 8
    checkIn := byteAt b 1 / 16, checkOut := byteAt b 1 % 16, phaseGroup := byteAt b 2
    downDirection := byteAt b 3 / 64, downAddress := byteAt b 3 % 64, jumpDuration := byteAt b 4
    travel := first12At b 5, dwell := second12At b 5, extension := first12At b 8, earlyDuration := second12At b 8
    lockout := first12At b 11, downTravel := second12At b 11 }

/-- The 14 bytes of the numbers (R190). -/
def RawApproach.toBytes (x : RawApproach) : List Byte :=
  [byteOf (x.inUse * 128 + x.rank * 16 + x.kinds), byteOf (x.checkIn * 16 + x.checkOut), byteOf x.phaseGroup,
   byteOf (x.downDirection * 64 + x.downAddress), byteOf x.jumpDuration]
    ++ pair12 x.travel x.dwell ++ pair12 x.extension x.earlyDuration ++ pair12 x.lockout x.downTravel

/-- A line as its code: Fh for none (R190). -/
def lineCode : Option (Fin 8) → Nat
  | none => 15
  | some l => l.val

/-- The line of a code; none for Fh. -/
def lineOfCode (n : Nat) : Option (Fin 8) := if h : n < 8 then some ⟨n, h⟩ else none

/-- A downstream direction as its code (R190). -/
def directionCode : Option Port → Nat
  | none => 0
  | some .a => 1
  | some .b => 2

/-- The direction of a code. -/
def directionOfCode : Nat → Option Port
  | 1 => some .a
  | 2 => some .b
  | _ => none

/-- An entry as its numbers. -/
def ApproachEntry.raw (e : ApproachEntry) : RawApproach :=
  { inUse := bit e.inUse, rank := e.rank, kinds := e.kinds.bits, checkIn := lineCode e.checkIn
    checkOut := lineCode e.checkOut, phaseGroup := e.phaseGroup, downDirection := directionCode e.downDirection
    downAddress := e.downAddress.getD 0, jumpDuration := e.jumpDuration, travel := e.travel, dwell := e.dwell
    extension := e.extension, earlyDuration := e.earlyDuration, lockout := e.lockout, downTravel := e.downTravel }

/-- The entry that numbers in range name. -/
def RawApproach.entry (x : RawApproach) : ApproachEntry :=
  { inUse := x.inUse = 1, phaseGroup := x.phaseGroup, checkIn := lineOfCode x.checkIn
    checkOut := lineOfCode x.checkOut, kinds := .ofBits x.kinds, travel := x.travel, dwell := x.dwell
    extension := x.extension, earlyDuration := x.earlyDuration, jumpDuration := x.jumpDuration, lockout := x.lockout
    rank := x.rank, downDirection := directionOfCode x.downDirection
    downAddress := if x.downAddress = 0 then none else some x.downAddress, downTravel := x.downTravel }

/-- A line code that names neither a line nor none. -/
def badLine (field n : Nat) : Check := (decide (8 ≤ n ∧ n ≠ 15), .fieldRange, field)

/-- The field checks of R66, in field order. For field 14 the range is tested before presence (DEDUCED, log 16). -/
def RawApproach.fieldChecks (x : RawApproach) : List Check :=
  [outside 2 1 16 x.phaseGroup, badLine 3 x.checkIn, badLine 4 x.checkOut, outside 6 10 1200 x.travel,
   outside 7 0 600 x.dwell, outside 8 10 300 x.extension, outside 9 10 300 x.earlyDuration,
   outside 10 30 150 x.jumpDuration, outside 11 0 1200 x.lockout, outside 12 0 7 x.rank,
   outside 13 0 2 x.downDirection, outside 14 0 62 x.downAddress,
   (decide ((x.downDirection = 0) ≠ (x.downAddress = 0)), .fieldForm, 14), outside 15 50 3000 x.downTravel]

/-- The own-address check of R67. -/
def State.ownAddressCheck (s : State) (x : RawApproach) : Check :=
  (decide (x.downAddress ≠ 0 ∧ x.downAddress = s.address.toNat), .ownAddress, 14)

/-- The line-role checks of R67 against the other in-use approaches: the check-in line first, then the check-out line,
the others in ascending number. -/
def State.lineRoleChecks (s : State) (ap : Fin 8) (e : ApproachEntry) : List Check :=
  let others := approachNumbers.filter (fun o => o ≠ ap ∧ (s.approach o).inUse)
  others.map (fun o => (decide (e.checkIn.isSome ∧ (s.approach o).checkIn = e.checkIn), .lineRole, o.val))
    ++ others.map (fun o => (decide (e.checkOut.isSome ∧ (s.approach o).checkOut = e.checkOut), .lineRole, o.val))

/-- Every check of an APPROACH write's contents (R66, R67). -/
def State.approachChecks (s : State) (ap : Fin 8) (x : RawApproach) : List Check :=
  x.fieldChecks ++ (if x.inUse = 1 then s.lineRoleChecks ap x.entry ++ [s.ownAddressCheck x] else [])

/-! ### ROUTE entries -/

/-- A ROUTE entry as the numbers in its 6 bytes (R190). -/
structure RawRoute where
  inUse : Nat
  direction : Nat
  route : Nat
  excluded : Nat
  cutOff : Nat
  baseLevel : Nat
  places : List Nat
  deriving DecidableEq, Repr

/-- The numbers in the bytes (R190). -/
def RawRoute.ofBytes (b : List Byte) : RawRoute :=
  let w := word16At b 0
  let v := word24At b 3
  { inUse := w / 32768, direction := w / 16384 % 2, route := w % 16384
    excluded := byteAt b 2 / 128, cutOff := byteAt b 2 % 128, baseLevel := v / 2097152
    places := [v / 16384 % 128, v / 128 % 128, v % 128] }

/-- The 6 bytes of the numbers (R190). -/
def RawRoute.toBytes (x : RawRoute) : List Byte :=
  bytes16 (x.inUse * 32768 + x.direction * 16384 + x.route) ++ [byteOf (x.excluded * 128 + x.cutOff)]
    ++ bytes24 (x.baseLevel * 2097152 + x.places.getD 0 0 * 16384 + x.places.getD 1 0 * 128 + x.places.getD 2 0)

/-- An entry as its numbers: each place past the end of the list of late thresholds holds 0. -/
def RouteEntry.raw (e : RouteEntry) : RawRoute :=
  { inUse := bit e.inUse, direction := bit e.direction, route := e.route, excluded := bit e.excluded
    cutOff := e.cutOff.getD 0, baseLevel := e.baseLevel
    places := [e.late.getD 0 0, e.late.getD 1 0, e.late.getD 2 0] }

/-- The entry that numbers in range name. -/
def RawRoute.entry (x : RawRoute) : RouteEntry :=
  { inUse := x.inUse = 1, route := x.route, direction := x.direction = 1, baseLevel := x.baseLevel
    late := x.places.filter (fun t => t ≠ 0), cutOff := if x.cutOff = 0 then none else some x.cutOff
    excluded := x.excluded = 1 }

/-- A place holding 0 followed by a place that does not (R190). -/
def holed : List Nat → Bool
  | [] => false
  | t :: rest => if t = 0 then rest.any (fun u => u ≠ 0) else holed rest

/-- Values each greater than the one before (R70). -/
def rising : List Nat → Bool
  | [] => true
  | t :: rest => rest.head?.all (fun u => t < u) && rising rest

/-- The field checks of R70, in field order. The direction, the base level, the thresholds and the cut-off cannot be out
of range in their bits (R190). -/
def RawRoute.fieldChecks (x : RawRoute) : List Check :=
  [outside 2 1 9999 x.route, (holed x.places, .fieldForm, 5),
   (!rising (x.places.filter (fun t => t ≠ 0)), .thresholdOrder, 5)]

/-- The route entries, in ascending order. -/
def routeNumbers : List (Fin 64) := List.finRange 64

/-- The lowest other in-use entry that holds the written key, when the contents are written in use (R71). -/
def State.duplicateRoute (s : State) (i : Fin 64) (e : RouteEntry) : Option (Fin 64) :=
  routeNumbers.find? (fun j =>
    e.inUse && j ≠ i && s.routes[j].inUse && s.routes[j].route = e.route && s.routes[j].direction = e.direction)

/-! ### CONFLICTS (section 4.5) -/

/-- A pair as written: two nibbles of a byte (R190). -/
abbrev RawPair := Nat × Nat

/-- The number of pairs and the pairs in the contents of a CONFLICTS record (R190). -/
def rawPairs (b : List Byte) : List RawPair := (b.drop 1).map (fun x => (x.toNat / 16, x.toNat % 16))

/-- A pair that names one approach twice or an approach outside 0 to 7 (R74). -/
def badPair (q : RawPair) : Bool := decide (7 < q.1 ∨ 7 < q.2 ∨ q.1 = q.2)

/-- The 28 pairs, lower approach first, ordered as R75 gives. -/
def allPairs : List (Fin 8 × Fin 8) :=
  approachNumbers.flatMap (fun x => (approachNumbers.filter (fun y => x < y)).map (fun y => (x, y)))

/-- The set that a list of written pairs names, as the ordered list of R75. -/
def conflictSet (pairs : List RawPair) : List (Fin 8 × Fin 8) :=
  allPairs.filter (fun q => pairs.any (fun w =>
    (w.1 = q.1.val && w.2 = q.2.val) || (w.1 = q.2.val && w.2 = q.1.val)))

/-- Two approaches conflict when their pair stands in CONFLICTS (R75). -/
def State.conflict (s : State) (x y : Fin 8) : Bool := s.conflicts.contains (x, y) || s.conflicts.contains (y, x)

/-- The checks of a CONFLICTS write (R74): the length before any pair. -/
def conflictChecks (count : Nat) (pairs : List RawPair) : List Check :=
  (decide (28 < count), .fieldForm, 1) :: (pairs.zipIdx.map (fun q => (badPair q.1, .pairForm, q.2)))

/-- The bytes of the stored set (R190). -/
def State.conflictBytes (s : State) : List Byte :=
  byteOf s.conflicts.length :: s.conflicts.map (fun q => byteOf (q.1.val * 16 + q.2.val))

/-! ### PARAMS (section 4.6) -/

/-- PARAMS as the numbers in its 42 bytes (R190). A line setting is its parity code and its suspect-accept bit. -/
structure RawParams where
  window : Nat
  responseTimeout : Nat
  startLimit : Nat
  margin : Nat
  denyHoldOff : Nat
  checkInGrace : Nat
  noticeGrace : Nat
  unlisted : Nat
  floor : Nat
  split : Nat
  onA : Nat
  onThresholdA : Nat
  offThresholdA : Nat
  onB : Nat
  onThresholdB : Nat
  offThresholdB : Nat
  holdLimit : Nat
  silenceLimit : Nat
  alertMask : Nat
  alertPort : Nat
  mapCount : Nat
  noticeMap : List (Nat × Nat)
  lines : List (Nat × Nat)
  deriving DecidableEq, Repr

/-- The numbers in the bytes: places of the notice map past the number of pairs, bits 7 to 3 of a line setting and bits
15 to 13 of the alert mask are ignored (R190). -/
def RawParams.ofBytes (b : List Byte) : RawParams :=
  { window := byteAt b 0, responseTimeout := byteAt b 1, startLimit := word16At b 2, margin := byteAt b 4
    denyHoldOff := word16At b 5, checkInGrace := word16At b 7, noticeGrace := word16At b 9
    unlisted := byteAt b 11, floor := byteAt b 12, split := byteAt b 13
    onA := byteAt b 14, onThresholdA := byteAt b 15, offThresholdA := byteAt b 16
    onB := byteAt b 17, onThresholdB := byteAt b 18, offThresholdB := byteAt b 19
    holdLimit := byteAt b 20, silenceLimit := byteAt b 21, alertMask := word16At b 22 % 8192
    alertPort := byteAt b 24, mapCount := byteAt b 25
    noticeMap := (List.range (min (byteAt b 25) 4)).map (fun i => (byteAt b (26 + 2 * i), byteAt b (27 + 2 * i)))
    lines := (List.range 8).map (fun i => (byteAt b (34 + i) % 4, byteAt b (34 + i) / 4 % 2)) }

/-- The 42 bytes of the numbers (R190). -/
def RawParams.toBytes (x : RawParams) : List Byte :=
  [byteOf x.window, byteOf x.responseTimeout] ++ bytes16 x.startLimit ++ [byteOf x.margin] ++ bytes16 x.denyHoldOff
    ++ bytes16 x.checkInGrace ++ bytes16 x.noticeGrace
    ++ [byteOf x.unlisted, byteOf x.floor, byteOf x.split, byteOf x.onA, byteOf x.onThresholdA, byteOf x.offThresholdA,
        byteOf x.onB, byteOf x.onThresholdB, byteOf x.offThresholdB, byteOf x.holdLimit, byteOf x.silenceLimit]
    ++ bytes16 x.alertMask ++ [byteOf x.alertPort, byteOf x.mapCount]
    ++ (List.range 4).flatMap (fun i =>
        let q := x.noticeMap.getD i (0, 0)
        [byteOf q.1, byteOf q.2])
    ++ (List.range 8).map (fun i =>
        let q := x.lines.getD i (0, 0)
        byteOf (q.2 * 4 + q.1))

/-- A parity setting as its code (R190). -/
def Parity.code : Parity → Nat
  | .noParity => 0
  | .oddParity => 1
  | .evenParity => 2

/-- The parity setting of a code. -/
def parityOfCode : Nat → Parity
  | 1 => .oddParity
  | 2 => .evenParity
  | _ => .noParity

/-- An alert port as its code (R190). -/
def AlertPort.code : AlertPort → Nat
  | .portA => 1
  | .portB => 2
  | .both => 3

/-- The alert port of a code. -/
def alertPortOfCode : Nat → AlertPort
  | 2 => .portB
  | 3 => .both
  | _ => .portA

/-- PARAMS as its numbers. -/
def Params.raw (x : Params) : RawParams :=
  { window := x.window, responseTimeout := x.responseTimeout, startLimit := x.startLimit, margin := x.margin
    denyHoldOff := x.denyHoldOff, checkInGrace := x.checkInGrace, noticeGrace := x.noticeGrace
    unlisted := x.unlisted.getD 255, floor := x.floor, split := x.split
    onA := bit x.flowA.on, onThresholdA := x.flowA.onThreshold, offThresholdA := x.flowA.offThreshold
    onB := bit x.flowB.on, onThresholdB := x.flowB.onThreshold, offThresholdB := x.flowB.offThreshold
    holdLimit := x.holdLimit, silenceLimit := x.silenceLimit, alertMask := x.alertMask.toNat
    alertPort := x.alertPort.code, mapCount := x.noticeMap.length
    noticeMap := x.noticeMap.map (fun q => (q.1, q.2.val))
    lines := x.lines.toList.map (fun l => (l.parity.code, bit l.suspectAccept)) }

/-- The line setting of two numbers. -/
def lineSettingOf (q : Nat × Nat) : LineSetting := { parity := parityOfCode q.1, suspectAccept := q.2 = 1 }

/-- The record that numbers in range name. -/
def RawParams.entry (x : RawParams) : Params :=
  { window := x.window, responseTimeout := x.responseTimeout, startLimit := x.startLimit, margin := x.margin
    denyHoldOff := x.denyHoldOff, checkInGrace := x.checkInGrace, noticeGrace := x.noticeGrace
    unlisted := if x.unlisted < 8 then some x.unlisted else none, floor := x.floor, split := x.split
    flowA := { on := x.onA = 1, onThreshold := x.onThresholdA, offThreshold := x.offThresholdA }
    flowB := { on := x.onB = 1, onThreshold := x.onThresholdB, offThreshold := x.offThresholdB }
    holdLimit := x.holdLimit, silenceLimit := x.silenceLimit, alertMask := BitVec.ofNat 13 x.alertMask
    alertPort := alertPortOfCode x.alertPort
    noticeMap := x.noticeMap.map (fun q => (q.1, Fin.ofNat 8 q.2))
    lines := #v[lineSettingOf (x.lines.getD 0 (0, 0)), lineSettingOf (x.lines.getD 1 (0, 0)),
                lineSettingOf (x.lines.getD 2 (0, 0)), lineSettingOf (x.lines.getD 3 (0, 0)),
                lineSettingOf (x.lines.getD 4 (0, 0)), lineSettingOf (x.lines.getD 5 (0, 0)),
                lineSettingOf (x.lines.getD 6 (0, 0)), lineSettingOf (x.lines.getD 7 (0, 0))] }

/-- The positions of notice-map pairs that name an upstream junction named before (R76). -/
def mapDuplicates (m : List (Nat × Nat)) : List Check :=
  m.zipIdx.map (fun q => ((m.take q.2).any (fun o => o.1 = q.1.1), .mapDuplicate, q.2))

/-- The checks of a PARAMS write's contents, in field order (R76). Within field 21 the number of pairs is tested first,
then every pair's range, the own address, and the duplicates (DEDUCED, log 17). -/
def State.paramsChecks (s : State) (x : RawParams) : List Check :=
  [outside 1 1 4 x.window, outside 2 2 50 x.responseTimeout, outside 3 10 600 x.startLimit, outside 4 0 7 x.margin,
   outside 5 0 600 x.denyHoldOff, outside 6 0 600 x.checkInGrace, outside 7 0 600 x.noticeGrace,
   (decide (7 < x.unlisted ∧ x.unlisted ≠ 255), .fieldRange, 8), outside 9 0 7 x.floor, outside 10 40 152 x.split,
   outside 11 0 1 x.onA, outside 12 8 152 x.onThresholdA, outside 13 0 151 x.offThresholdA,
   (decide (x.onThresholdA ≤ x.offThresholdA), .flowOrder, 0),
   outside 14 0 1 x.onB, outside 15 8 152 x.onThresholdB, outside 16 0 151 x.offThresholdB,
   (decide (x.onThresholdB ≤ x.offThresholdB), .flowOrder, 1),
   outside 17 10 255 x.holdLimit, outside 18 10 100 x.silenceLimit, outside 20 1 3 x.alertPort,
   (decide (4 < x.mapCount), .fieldForm, 21)]
    ++ x.noticeMap.map (fun q => (decide (q.1 < 1 ∨ 62 < q.1 ∨ 7 < q.2), .fieldRange, 21))
    ++ x.noticeMap.map (fun q => (decide (q.1 = s.address.toNat), .ownAddress, 21))
    ++ mapDuplicates x.noticeMap
    ++ x.lines.zipIdx.map (fun q => (decide (2 < q.1.1), .fieldRange, 22 + q.2))

/-- The threshold tests of R27 and R77 against the partitions of a split: port A's on-threshold against port B's
partition, then port B's against port A's. -/
def thresholdChecks (split : Nat) (x : RawParams) : List Check :=
  [(decide (partitionOf split .b < x.onThresholdA), .flowPartition, 0),
   (decide (partitionOf split .a < x.onThresholdB), .flowPartition, 1)]

/-- Whether either queue's used units exceed its partition under a new split (R27). -/
def State.splitInUse (s : State) (split : Nat) : Bool :=
  partitionOf split .b < usedUnits s.portB.queue || partitionOf split .a < usedUnits s.portA.queue

/-! ### Level computation (R73) -/

/-- The in-use ROUTE entry of a key: by R71 there is at most one. -/
def State.routeEntry (s : State) (route : Nat) (direction : Bool) : Option RouteEntry :=
  s.routes.toList.find? (fun e => e.inUse && e.route = route && e.direction = direction)

/-- The number of late thresholds a lateness reaches; an unknown lateness reaches none. -/
def thresholdsReached (late : List Nat) : Option Int → Nat
  | none => 0
  | some x => (late.filter (fun t => (t : Int) ≤ x)).length

/-- Whether a bus is early past a cut-off: at or below minus the cut-off; an unknown lateness is not. -/
def earlyPast : Option Nat → Option Int → Bool
  | some c, some x => x ≤ -(c : Int)
  | some _, none => false
  | none, _ => false

/-- The level of a bus, or none for a refusal (R73). -/
def State.level (s : State) (route : Nat) (direction : Bool) (lateness : Option Int) : Option Nat :=
  match s.routeEntry route direction with
  | none => s.params.unlisted
  | some e =>
    if e.excluded ∨ earlyPast e.cutOff lateness then none
    else some (min 7 (e.baseLevel + thresholdsReached e.late lateness))

/-! ### Whole-table checks (R185) -/

/-- The in-use approaches, in ascending number. -/
def State.inUseApproaches (s : State) : List (Fin 8) := approachNumbers.filter (fun ap => (s.approach ap).inUse)

/-- Two in-use approaches share a line in the same role. -/
def State.sharesLine (s : State) (x y : Fin 8) : Bool :=
  ((s.approach x).checkIn.isSome && (s.approach x).checkIn = (s.approach y).checkIn)
    || ((s.approach x).checkOut.isSome && (s.approach x).checkOut = (s.approach y).checkOut)

/-- An in-use entry fails a check of R66 or the own-address check of R67. -/
def State.entryFails (s : State) (ap : Fin 8) : Bool :=
  (firstFailure ((s.approach ap).raw.fieldChecks ++ [s.ownAddressCheck (s.approach ap).raw])).isSome

/-- The whole-table checks of COMMISSION, in order (R185). -/
def State.commissionChecks (s : State) : List Check :=
  (s.inUseApproaches.isEmpty, .noApproach, 0)
    :: s.inUseApproaches.map (fun ap => (s.entryFails ap, .entryCheck, ap.val))
    ++ allPairs.map (fun q =>
        ((s.approach q.1).inUse && (s.approach q.2).inUse && s.sharesLine q.1 q.2, .roleClash, q.2.val))
    ++ s.params.noticeMap.zipIdx.map (fun q => (!(s.approach q.1.2).inUse, .mapTarget, q.2))
    ++ s.conflicts.flatMap (fun q => [(!(s.approach q.1).inUse, .conflictTarget, q.1.val),
                                      (!(s.approach q.2).inUse, .conflictTarget, q.2.val)])

end Sys2Proof.Machine
end

