-- ==== Sys2Proof/Machine/Arbiter.lean ====
section
/-! DEFINITION. The call arbiter's evaluation (06_call_arbitration.md): eligibility, kind choice, candidate order, joining,
opening and preemption; and the end of a lockout. -/

namespace Sys2Proof.Machine

/-! ### Eligibility, kind and order (section 6.3) -/

/-- A record is eligible for a service kind (R118). -/
def State.eligible (s : State) (x : Record) (kind : ServiceKind) : Bool :=
  let e := s.approach x.approach
  decide (x.state = .waiting) && e.kinds.has kind && !x.excluded.has kind && x.holdOff.isNone
    && (s.lockout x.approach).isNone
    && (decide (x.basis = .confirmed ∧ s.params.floor ≤ x.level) || decide (kind = .extend))
    && (decide (x.basis ≠ .forecast) || decide (x.eta ≤ e.extension))

/-- Phase group g is in the green set when the bit of weight 2^(g-1) is set (R14). -/
def inGreenSet (green : Word16) (g : Nat) : Bool := 1 ≤ g && green.getLsbD (g - 1)

/-- The kind chosen for a record (R119). -/
def State.chosenKind (s : State) (x : Record) : Option ServiceKind :=
  if s.controller.phaseKnown then
    if inGreenSet s.controller.greenSet (s.approach x.approach).phaseGroup then
      if s.eligible x .extend then some .extend else none
    else if s.eligible x .early then some .early
    else if s.eligible x .jump then some .jump
    else none
  else none

/-- CONFIRMED stands before FORECAST and SUSPECT, which are equal (R120). -/
def basisKey : Basis → Int
  | .confirmed => 0
  | .forecast => 1
  | .suspect => 1

/-- A list of keys comes before another: the first that differs decides, the smaller first. -/
def keysBefore : List Int → List Int → Bool
  | x :: xs, y :: ys => if x = y then keysBefore xs ys else x < y
  | _, _ => false

/-- The keys of the candidate order, each smallest first: level and rank, highest first, are negated (R120). -/
def State.candidateKeys (s : State) (r : Fin 24) : List Int :=
  match s.record r with
  | none => []
  | some x => [-(x.level : Int), basisKey x.basis, x.eta, -((s.approach x.approach).rank : Int), r.val]

/-- A record slot put in its place in an ordered list. -/
def insertBy (before : Fin 24 → Fin 24 → Bool) (r : Fin 24) : List (Fin 24) → List (Fin 24)
  | [] => [r]
  | q :: rest => if before r q then r :: q :: rest else q :: insertBy before r rest

/-- A list of record slots put in order. -/
def sortBy (before : Fin 24 → Fin 24 → Bool) : List (Fin 24) → List (Fin 24)
  | [] => []
  | r :: rest => insertBy before r (sortBy before rest)

/-- The candidates: the WAITING records in the order of R120. -/
def State.candidates (s : State) : List (Fin 24) :=
  sortBy (fun r q => keysBefore (s.candidateKeys r) (s.candidateKeys q))
    (recordSlots.filter (fun r => (s.record r).any (fun x => x.state = .waiting)))

/-! ### Slots that hold approaches -/

/-- A non-IDLE slot holds an approach (R114). -/
def State.holds (s : State) (k : Fin 4) (ap : Fin 8) : Bool :=
  (s.slot k).state ≠ .idle && (s.slot k).approach = some ap

/-- Some non-IDLE slot holds an approach. -/
def State.approachHeld (s : State) (ap : Fin 8) : Bool := callSlots.any (fun k => s.holds k ap)

/-- A non-IDLE slot holds an approach that conflicts with this one. -/
def State.slotConflicts (s : State) (ap : Fin 8) (k : Fin 4) : Bool :=
  (s.slot k).state ≠ .idle && (s.slot k).approach.any (fun other => s.conflict ap other)

/-- The non-IDLE slots that hold approaches conflicting with this one, in ascending order. -/
def State.conflictingSlots (s : State) (ap : Fin 8) : List (Fin 4) := callSlots.filter (s.slotConflicts ap)

/-- The number of non-IDLE slots, CLOSING ones included. -/
def State.slotsInUse (s : State) : Nat := (callSlots.filter (fun k => (s.slot k).state ≠ .idle)).length

/-- The ready line reads READY, the controller is not UNRESPONSIVE and the phase status is KNOWN (R122, R126). -/
def State.controllerOpen (s : State) : Bool :=
  decide (s.controller.ready = .ready) && !s.controller.unresponsive && s.controller.phaseKnown

/-! ### Joining (R121) -/

/-- The open slot that holds an approach. -/
def State.openSlotOf (s : State) (ap : Fin 8) : Option (Fin 4) :=
  callSlots.find? (fun k => (s.slot k).state.isOpen && (s.slot k).approach = some ap)

/-- A record becomes a member of a slot: appended to its list, with its call slot and state set (R85, R121). -/
def State.join (s : State) (k : Fin 4) (r : Fin 24) (x : Record) : State :=
  let y := s.slot k
  (s.setSlot k { y with members := y.members ++ [r] }).setRecord r
    (some { x with callSlot := some k, state := y.state.memberState })

/-- A WAITING record joins the open slot of its approach when it is eligible for the slot's kind (R121). -/
def State.tryJoin (s : State) (r : Fin 24) : State :=
  match s.record r with
  | none => s
  | some x =>
    match s.openSlotOf x.approach with
    | none => s
    | some k =>
      match (s.slot k).kind with
      | none => s
      | some kind => if s.eligible x kind then s.join k r x else s

/-- The joining part of an evaluation, in candidate order (R121). -/
def State.joining (s : State) : State := forEach s.candidates (fun r t => t.tryJoin r) s

/-! ### Opening (section 6.5) -/

/-- The lowest-numbered IDLE slot (R123). -/
def State.lowestIdle (s : State) : Option (Fin 4) := callSlots.find? (fun k => (s.slot k).state = .idle)

/-- The number after a call number, 15 being followed by 1 (R123). -/
def nextNumber (n : Nat) : Nat := if 15 ≤ n then 1 else n + 1

/-- Some non-IDLE slot holds a call number. -/
def State.numberHeld (s : State) (n : Nat) : Bool :=
  callSlots.any (fun k => (s.slot k).state ≠ .idle && (s.slot k).call = some n)

/-- The first number from `n` upward, wrapping, that no non-IDLE slot holds; `tries` more are tried. -/
def State.freeNumber (s : State) : Nat → Nat → Nat
  | 0, n => n
  | tries + 1, n => if s.numberHeld n then s.freeNumber tries (nextNumber n) else n

/-- The requested duration of a kind (R124). -/
def ApproachEntry.durationOf (e : ApproachEntry) : ServiceKind → Nat
  | .extend => e.extension
  | .early => e.earlyDuration
  | .jump => e.jumpDuration

/-- The kind for which a slot may be opened for a candidate: one is chosen, no non-IDLE slot holds its approach, and none
holds a conflicting one (R122). -/
def State.openKind (s : State) (r : Fin 24) : Option ServiceKind :=
  match s.record r with
  | none => none
  | some x =>
    if s.approachHeld x.approach ∨ s.conflictingSlots x.approach ≠ [] then none else s.chosenKind x

/-- The first candidate a slot may be opened for. -/
def State.openCandidate (s : State) : Option (Fin 24) := s.candidates.find? (fun r => (s.openKind r).isSome)

/-- A slot opened for a record (R123, R124): its fields, the CALL with its RESPONSE timer, the count of CALLS, and the
joining of the other WAITING records on the approach. -/
def State.openSlot (s : State) (k : Fin 4) (r : Fin 24) (x : Record) (kind : ServiceKind) : State :=
  let n := s.freeNumber 15 s.nextCall
  let y : CallSlot :=
    { state := .called, call := some n, approach := some x.approach, kind := some kind
      duration := some ((s.approach x.approach).durationOf kind), members := [r], cause := none, wasServing := false }
  let s1 := ({ s with nextCall := nextNumber n }.setSlot k y).setRecord r
    (some { x with state := .called, callSlot := some k })
  let s2 := ((s1.placeAndWait .call k).count (.approach x.approach .calls)).markDue
  forEach (s2.candidates.filter (fun q => (s2.record q).any (fun z => z.approach = x.approach)))
    (fun q t => t.tryJoin q) s2

/-- One opening, where the four conditions of R122 hold and a candidate meets them. -/
def State.openNext (s : State) : Option State :=
  if s.slotsInUse < s.params.window ∧ s.controllerOpen then
    match s.openCandidate, s.lowestIdle with
    | some r, some k =>
      match s.record r, s.openKind r with
      | some x, some kind => some (s.openSlot k r x kind)
      | _, _ => none
    | _, _ => none
  else none

/-- The opening part of an evaluation: openings one at a time while one can be made. Each takes one of the four slots,
so four rounds are enough. -/
def State.opening : Nat → State → State
  | 0, s => s
  | rounds + 1, s =>
    match s.openNext with
    | none => s
    | some s' => State.opening rounds s'

/-! ### Preemption (section 6.6) -/

/-- The leading candidate: the first for which a kind is chosen (R126). -/
def State.leading (s : State) : Option (Fin 24) :=
  s.candidates.find? (fun r => (s.record r).any (fun x => (s.chosenKind x).isSome))

/-- A conflicting slot gives way to a level: it is not CLOSING, and every member's level is at or below the level less
the margin (R126). -/
def State.givesWay (s : State) (level : Nat) (k : Fin 4) : Bool :=
  decide ((s.slot k).state ≠ .closing)
    && (s.slot k).members.all (fun m => (s.record m).all (fun z => z.level + s.params.margin ≤ level))

/-- The slots a preemption closes: every conflicting slot of the leading candidate, when it is blocked by conflicts alone
and every one of them gives way (R126). -/
def State.preempted (s : State) : List (Fin 4) :=
  if s.params.margin ≠ 0 ∧ s.controllerOpen then
    match s.leading with
    | none => []
    | some r =>
      match s.record r with
      | none => []
      | some x =>
        let ks := s.conflictingSlots x.approach
        if s.approachHeld x.approach = false ∧ ks.all (s.givesWay x.level) then ks else []
  else []

/-- One slot preempted: closed with cause PREEMPT, its members returned, PREEMPTIONS counted on its approach (R127). -/
def State.preemptSlot (s : State) (k : Fin 4) : State :=
  let s1 := s.closeReturning k .preempt
  match (s.slot k).approach with
  | none => s1
  | some ap => s1.count (.approach ap .preemptions)

/-- The preemption part of an evaluation, in ascending slot order (R127). -/
def State.preemption (s : State) : State := forEach s.preempted (fun k t => t.preemptSlot k) s

/-! ### Meanings -/

/-- An evaluation's three parts, in order (R117). -/
def State.evaluate (s : State) : State := (State.opening 4 s.joining).preemption

/-- EVALUATION: taken while the mark is set in ACTIVE; the mark is cleared as it is taken (R116, R117). -/
def execEvaluation (s : State) : Host.Outcome State Fault Refusal :=
  if s.mode = .active ∧ s.evalDue then taken { s with evalDue := false }.evaluate else noEvent s

/-- LOCKOUT_EXPIRY: a running lockout stops, and the evaluation-due mark is set (R133). -/
def execLockoutExpiry (ap : Fin 8) (s : State) : Host.Outcome State Fault Refusal :=
  match s.lockout ap with
  | none => noEvent s
  | some _ => taken (s.setLockout ap none).markDue

end Sys2Proof.Machine
end

