-- ==== Sys2Proof/Machine/Notices.lean ====
section
/-! DEFINITION. Sending advance notices (08_advance_notices.md section 8.1). Receiving them is in Records.lean, beside the
request table that takes them. -/

namespace Sys2Proof.Machine

/-- The NOTICE for a bus that checked out on an approach: destination the downstream junction, source this junction,
travel time the downstream travel time (R164). -/
def State.noticeFrame (s : State) (e : ApproachEntry) (vehicle route : Nat) (direction : Bool) (lateness : Option Int) :
    LinkFrame :=
  composeFrame (e.downAddress.getD 0) s.address kindNotice Config.composedHopLimit 0
    (bytes16 vehicle ++ bytes16 (routeWord route direction) ++ [writeLateness lateness] ++ bytes16 e.downTravel)

/-- A composed notice is offered to a port: it must be ENABLED and not SILENT and have room (R165). -/
def State.offerNotice (s : State) (p : Port) (f : LinkFrame) : State :=
  let x := s.port p
  if x.mode = .enabled ∧ x.silent = false ∧ s.fits p f then
    (s.enqueue p { frame := f, ownAlert := false }).count (.notice .noticesSent)
  else (s.count (.notice .noticesUnsent)).raise .noticeUnsent

/-- The notice unit's answer to a clean CHECK-OUT on an approach (R163). -/
def State.sendNotice (s : State) (ap : Fin 8) (vehicle route : Nat) (direction : Bool) (lateness : Option Int) : State :=
  let e := s.approach ap
  match e.downDirection with
  | none => s
  | some p => s.offerNotice p (s.noticeFrame e vehicle route direction lateness)

end Sys2Proof.Machine
end

