-- ==== Sys2Proof/Machine/Records.lean ====
section
/-! DEFINITION. The request table (05_the_request_table.md): what a check-in, a check-out, a cancel and a notice do to it,
and the meanings of its timers. -/

namespace Sys2Proof.Machine

/-- The record slot that holds a vehicle's record (R83). -/
def State.findVehicle (s : State) (vehicle : Nat) : Option (Fin 24) :=
  recordSlots.find? (fun r => (s.record r).any (fun x => x.vehicle = vehicle))

/-- The lowest free record slot (R82). -/
def State.freeSlot (s : State) : Option (Fin 24) := recordSlots.find? (fun r => (s.record r).isNone)

/-- The number of occupied record slots. -/
def State.occupied (s : State) : Nat := (recordSlots.filter (fun r => (s.record r).isSome)).length

/-- A record as it is created: WAITING, no hold-off, retry count 0, no excluded kind, no call slot (R85, R88, R102). -/
def newRecord (vehicle route : Nat) (direction : Bool) (lateness : Option Int) (ap : Fin 8) (basis : Basis)
    (upstream : Option Nat) (level eta lifetime created : Nat) : Record :=
  { vehicle := vehicle, route := route, direction := direction, approach := ap, basis := basis, upstream := upstream
    level := level, lateness := lateness, state := .waiting, eta := eta, lifetime := lifetime, holdOff := none
    retry := 0, excluded := .empty, callSlot := none, created := created }

/-- The ETA a CHECK-IN sets (R89). -/
def checkInEta (e : ApproachEntry) (nearside : Bool) : Nat := e.travel + if nearside then e.dwell else 0

/-! ### A full table (section 5.4) -/

/-- Of the record slots of a list, the first that none after it beats. -/
def bestOf (beats : Fin 24 → Fin 24 → Bool) : List (Fin 24) → Option (Fin 24)
  | [] => none
  | r :: rest =>
    match bestOf beats rest with
    | none => some r
    | some b => if beats b r then some b else some r

/-- A record slot holds a WAITING record with a property. -/
def State.waitingWith (s : State) (p : Record → Bool) (r : Fin 24) : Bool :=
  (s.record r).any (fun x => x.state = .waiting && p x)

/-- Step 1 of R96: the least lifetime; of equals, the lower slot. -/
def State.sooner (s : State) (b r : Fin 24) : Bool :=
  match s.record b, s.record r with
  | some x, some y => x.lifetime < y.lifetime
  | some _, none => false
  | none, _ => false

/-- Step 2 of R96: the lowest level; of equals, the largest ETA; of equals, the higher slot. The slots are met in
ascending order, so one that is not worse and comes later is taken. -/
def State.lesser (s : State) (b r : Fin 24) : Bool :=
  match s.record b, s.record r with
  | some x, some y => x.level < y.level || (x.level = y.level && y.eta ≤ x.eta)
  | some _, none => false
  | none, _ => false

/-- The victim of a full table for a newcomer's level (R96). -/
def State.victim (s : State) (level : Nat) : Option (Fin 24) :=
  match bestOf s.sooner (recordSlots.filter (s.waitingWith (fun x => x.basis = .forecast))) with
  | some r => some r
  | none => bestOf s.lesser (recordSlots.filter (s.waitingWith (fun x => x.level < level)))

/-- A report or notice dropped for a full table (R97). -/
def State.dropFull (s : State) : State := (s.count (.loc .reportsDroppedFull)).raise .tableFull

/-- A record is created in a slot: an evaluation event (R88, R112). -/
def State.createIn (s : State) (r : Fin 24) (x : Record) : State := (s.setRecord r (some x)).markDue

/-- A CHECK-IN's new record is created in the lowest free slot, or in a displaced victim's, or is dropped (R88, R97). -/
def State.createOrDisplace (s : State) (x : Record) : State :=
  match s.freeSlot with
  | some r => s.createIn r x
  | none =>
    match s.victim x.level with
    | some r => (s.takeOut r .displaced).createIn r x
    | none => s.dropFull

/-! ### Check-in (section 5.3) -/

/-- A CHECK-IN for a vehicle with no record (R88, R92, R94). -/
def State.checkInNew (s : State) (rep : Report) (ap : Fin 8) : State :=
  match s.level rep.route rep.direction rep.lateness with
  | none => s.count (.approach ap .refused)
  | some level =>
    let eta := checkInEta (s.approach ap) rep.nearside
    s.createOrDisplace (newRecord rep.vehicle rep.route rep.direction rep.lateness ap
      (if rep.suspect then .suspect else .confirmed) none level eta (eta + s.params.checkInGrace) s.corridorTime)

/-- A WAITING record refreshed, or moved and refreshed, by a clean CHECK-IN (R90, R91). -/
def State.refreshed (s : State) (x : Record) (rep : Report) (ap : Fin 8) (level : Nat) : Record :=
  let eta := checkInEta (s.approach ap) rep.nearside
  let y := { x with route := rep.route, direction := rep.direction, lateness := rep.lateness, level := level
                    eta := eta, lifetime := eta + s.params.checkInGrace, basis := .confirmed }
  if x.approach = ap then y
  else { y with approach := ap, retry := 0, holdOff := none, excluded := .empty }

/-- A clean CHECK-IN that finds a record (R90, R91, R92, R93). -/
def State.checkInFound (s : State) (rep : Report) (ap : Fin 8) (r : Fin 24) (x : Record) : State :=
  if x.state = .waiting then
    match s.level rep.route rep.direction rep.lateness with
    | none => s.takeOut r .refused
    | some level => (s.setRecord r (some (s.refreshed x rep ap level))).markDue
  else s.setRecord r (some { x with lateness := rep.lateness, basis := .confirmed })

/-- A CHECK-IN handed to the request table (R87, R94). -/
def State.takeCheckIn (s : State) (rep : Report) (ap : Fin 8) : State :=
  let s1 := s.count (.approach ap .checkIns)
  match s1.findVehicle rep.vehicle with
  | none => s1.checkInNew rep ap
  | some r =>
    if rep.suspect then s1
    else
      match s1.record r with
      | none => s1
      | some x => s1.checkInFound rep ap r x

/-! ### Check-out and cancel (section 5.5) -/

/-- The outcome of a check-out, by the state of the record it finds (R98). -/
def checkOutOutcome (st : RecordState) : ApproachCounter := if st = .serving then .served else .cleared

/-- A vehicle's record, if any, is removed by a check-out (R98). -/
def State.removeCheckedOut (s : State) (vehicle : Nat) : State :=
  match s.findVehicle vehicle with
  | none => s
  | some r =>
    match s.record r with
    | none => s
    | some x => s.removeRecord r (checkOutOutcome x.state) .checkout

/-- A CHECK-OUT handed to the request table (R98, R99, R100). -/
def State.takeCheckOut (s : State) (rep : Report) (ap : Fin 8) : State :=
  let s1 := (s.count (.approach ap .checkOuts)).removeCheckedOut rep.vehicle
  if rep.suspect then s1 else s1.sendNotice ap rep.vehicle rep.route rep.direction rep.lateness

/-- A CANCEL handed to the request table (R101). -/
def State.takeCancel (s : State) (rep : Report) : State :=
  if rep.suspect then s
  else
    match s.findVehicle rep.vehicle with
    | none => s
    | some r => s.removeRecord r .withdrawn .withdraw

/-! ### Notices (section 5.6 and 08 section 8.2) -/

/-- What a notice carries to the request table (R170). -/
structure NoticeArrival where
  vehicle : Nat
  route : Nat
  direction : Bool
  lateness : Option Int
  travel : Nat
  upstream : Nat
  deriving DecidableEq, Repr

/-- A mapped notice for a vehicle with no record (R102). -/
def State.noticeNew (s : State) (n : NoticeArrival) (ap : Fin 8) : State :=
  match s.level n.route n.direction n.lateness with
  | none => s.count (.approach ap .refused)
  | some level =>
    match s.freeSlot with
    | none => s.dropFull
    | some r =>
      s.createIn r (newRecord n.vehicle n.route n.direction n.lateness ap .forecast (some n.upstream) level n.travel
        (n.travel + s.params.noticeGrace) s.corridorTime)

/-- A mapped notice for a vehicle with a record: a SUSPECT one is corroborated, another is counted late (R103). -/
def State.noticeFound (s : State) (n : NoticeArrival) (r : Fin 24) (x : Record) : State :=
  if x.basis = .suspect then
    (s.setRecord r (some { x with basis := .confirmed, upstream := some n.upstream })).markDue
  else s.count (.notice .noticesLate)

/-- A mapped notice counted and handed to the request table (R170). -/
def State.takeNotice (s : State) (n : NoticeArrival) (ap : Fin 8) : State :=
  let s1 := s.count (.approach ap .noticesIn)
  match s1.findVehicle n.vehicle with
  | none => s1.noticeNew n ap
  | some r =>
    match s1.record r with
    | none => s1
    | some x => s1.noticeFound n r x

/-- A NOTICE frame read field by field (R10, R168): none when it is invalid in its fields. -/
def readNotice (f : LinkFrame) : Option NoticeArrival :=
  let word := word16At f.body 2
  let n : NoticeArrival :=
    { vehicle := word16At f.body 0, route := routeNumber word, direction := routeDirection word
      lateness := readLateness (byteAt f.body 4), travel := word16At f.body 5, upstream := low6 f.source }
  if f.body.length < 7 ∨ n.vehicle = 0 ∨ n.route < 1 ∨ 9999 < n.route ∨ n.travel < 50 ∨ 3000 < n.travel then none
  else some n

/-- The in-use approach the notice map gives for a source (R169). -/
def State.mappedApproach (s : State) (source : Nat) : Option (Fin 8) :=
  match s.params.noticeMap.find? (fun q => q.1 = source) with
  | none => none
  | some q => if (s.approach q.2).inUse then some q.2 else none

/-- A NOTICE taken by the notice unit (R167 to R170): discarded but in ACTIVE. -/
def State.noticeFrameTaken (s : State) (f : LinkFrame) : State :=
  if s.mode = .active then
    match readNotice f with
    | none => s.count (.notice .noticesUnmapped)
    | some n =>
      match s.mappedApproach n.upstream with
      | none => s.count (.notice .noticesUnmapped)
      | some ap => s.takeNotice n ap
  else s

/-! ### The meanings of the records' timers (section 5.7) -/

/-- ETA_EXPIRY: the ETA of a record stands at 0, and nothing else changes (R104). -/
def execEtaExpiry (r : Fin 24) (s : State) : Host.Outcome State Fault Refusal :=
  match s.record r with
  | none => noEvent s
  | some x => taken (s.setRecord r (some { x with eta := 0 }))

/-- LIFETIME_EXPIRY: the record is removed with outcome EXPIRED, whatever its state and basis (R105). -/
def execLifetimeExpiry (r : Fin 24) (s : State) : Host.Outcome State Fault Refusal :=
  match s.record r with
  | none => noEvent s
  | some _ => taken (s.removeRecord r .expired .expired)

/-- HOLD_OFF_EXPIRY: a running hold-off becomes absent, an evaluation event (R106). -/
def execHoldOffExpiry (r : Fin 24) (s : State) : Host.Outcome State Fault Refusal :=
  match s.record r with
  | none => noEvent s
  | some x =>
    match x.holdOff with
    | none => noEvent s
    | some _ => taken (s.setRecord r (some { x with holdOff := none })).markDue

end Sys2Proof.Machine
end

