-- ==== Sys2Proof/Machine/Beacon.lean ====
section
/-! DEFINITION. The beacon lines and the report engine (03_beacon_lines_and_vehicle_reports.md): assembling and judging a
report, faults and quarantine, the line actions, and the take. -/

namespace Sys2Proof.Machine

/-! ### Judging a report (section 3.2) -/

/-- The class of a report that has ended (R44); a report whose data are valid comes with its fields. -/
inductive ReportClass where
  | framing
  | checksum
  | parity (rep : Report)
  | clean (rep : Report)
  deriving DecidableEq, Repr

/-- The class of a complete report (R44). -/
def judge (l : Fin 8) (raw : RawReport) : ReportClass :=
  if raw.framingMark then .framing
  else
    match readReport l raw.parityMark raw.chars with
    | none => .checksum
    | some rep => if raw.parityMark then .parity rep else .clean rep

/-! ### Faults, offers and quarantine (sections 3.3 and 3.4) -/

/-- A faulty report discarded on an ENABLED line: BEACON_FAULT, the streak rises, and at 8 the line is quarantined (R45,
R46, R49). -/
def State.faulted (s : State) (l : Fin 8) : State :=
  let s1 := s.raise .beaconFault
  let x := s1.line l
  if Config.quarantineStreak ≤ x.streak + 1 then
    s1.setLine l { mode := .quarantined, assembler := .settle, buffer := none, streak := Config.quarantineStreak }
  else s1.setLine l { x with streak := x.streak + 1 }

/-- The holding buffer takes a report when its full flag is clear; otherwise the report is lost (R48). -/
def State.offerReport (s : State) (l : Fin 8) (rep : Report) : State :=
  if (s.line l).buffer.isNone then s.setLine l { s.line l with buffer := some rep }
  else (s.count (.beacon l .overruns)).raise .beaconOverrun

/-- A suspect report the buffer takes is counted in SUSPECT_ACCEPTED (R46). -/
def State.offerSuspect (s : State) (l : Fin 8) (rep : Report) : State :=
  if (s.line l).buffer.isNone then (s.offerReport l rep).count (.beacon l .suspectAccepted) else s.offerReport l rep

/-- The settings of a line. -/
def State.lineSetting (s : State) (l : Fin 8) : LineSetting := s.params.lines[l]

/-- A report ended on an ENABLED line is dealt with by its class (R45, R46, R47). -/
def State.dealReport (s : State) (l : Fin 8) : ReportClass → State
  | .framing => (s.count (.beacon l .framingErr)).faulted l
  | .checksum => (s.count (.beacon l .checksumErr)).faulted l
  | .parity rep =>
    let s1 := s.count (.beacon l .parityErr)
    if (s.lineSetting l).suspectAccept then s1.offerSuspect l rep else s1.faulted l
  | .clean rep => (s.setLine l { s.line l with streak := 0 }).offerReport l rep

/-- A line enters DISABLED (R52). -/
def State.enterDisabled (s : State) (l : Fin 8) : State :=
  s.setLine l { mode := .disabled, assembler := .settle, buffer := none, streak := 0 }

/-- What a report ended on a DRAINING line counts and raises (R53). -/
def State.drainCount (s : State) (l : Fin 8) : ReportClass → State
  | .framing => (s.count (.beacon l .framingErr)).raise .beaconFault
  | .checksum => (s.count (.beacon l .checksumErr)).raise .beaconFault
  | .parity _ =>
    let s1 := s.count (.beacon l .parityErr)
    if (s.lineSetting l).suspectAccept then s1 else s1.raise .beaconFault
  | .clean _ => s

/-- A report ended on a DRAINING line: counted, then the line enters DISABLED (R53). -/
def State.drainReport (s : State) (l : Fin 8) (c : ReportClass) : State := (s.drainCount l c).enterDisabled l

/-- A report has ended on a line that assembles: the assembler is in SEEK and the report is dealt with by the line state
(R42, R44). -/
def State.reportEnded (s : State) (l : Fin 8) (c : ReportClass) : State :=
  let s1 := s.setLine l { s.line l with assembler := .seek }
  match (s.line l).mode with
  | .enabled => s1.dealReport l c
  | .draining => s1.drainReport l c
  | .disabled => s
  | .quarantined => s

/-- A line that takes characters (R42). -/
def LineMode.assembles : LineMode → Bool
  | .enabled => true
  | .draining => true
  | .disabled => false
  | .quarantined => false

/-- What comes of characters on a line that takes them, each judged under the parity setting in force (R42, R51); none on
a line that takes none. -/
def State.lineRun (s : State) (l : Fin 8) (chars : List BeaconChar) : Option (Run Assembler RawReport) :=
  if (s.line l).mode.assembles then
    some (runChars (Assembler.char (s.lineSetting l).parity) (s.line l).assembler chars)
  else none

/-- The report that ends with the last of these characters, on a line that takes characters (R42, log 8). -/
def State.reportFrom (s : State) (l : Fin 8) (chars : List BeaconChar) : Option RawReport :=
  match s.lineRun l chars with
  | some (.ended _ raw) => some raw
  | _ => none

/-- REPORT_START: a sync character with a good stop bit arrives in SEEK on a line that takes characters, and the
characters behind it that do not end the report (R42, log 8). -/
def execReportStart (l : Fin 8) (parityBit : Bool) (more : List BeaconChar) (s : State) :
    Host.Outcome State Fault Refusal :=
  if (s.line l).mode.assembles ∧ (s.line l).assembler = .seek then
    match runChars (Assembler.char (s.lineSetting l).parity) .seek
        ({ data := 0xC3, parityBit := parityBit, stopGood := true } :: more) with
    | .going a => taken (s.setLine l { s.line l with assembler := a })
    | .ended .. => noEvent s
    | .overran => noEvent s
  else noEvent s

/-- REPORT_COMPLETE: the ninth character is stored and the report is judged and dealt with (R44 to R49, R53). Characters
that do not end the report are stored, so that a PARAMS write may fall between the characters of one report (R51, log 8). -/
def execReportComplete (l : Fin 8) (chars : List BeaconChar) (s : State) : Host.Outcome State Fault Refusal :=
  match s.lineRun l chars with
  | some (.ended _ raw) => taken (s.reportEnded l (judge l raw))
  | some (.going a) => taken (s.setLine l { s.line l with assembler := a })
  | some .overran => noEvent s
  | none => noEvent s

/-- BEACON_LINE_IDLE: a line that takes characters lies idle for more than two byte-times (R42, R43). -/
def execBeaconLineIdle (l : Fin 8) (s : State) : Host.Outcome State Fault Refusal :=
  if (s.line l).mode.assembles then
    match (s.line l).assembler with
    | .settle => taken (s.setLine l { s.line l with assembler := .seek })
    | .seek => taken s
    | .collect .. => taken (s.reportEnded l .framing)
  else noEvent s

/-- LINE_DRAIN_COMPLETE: the report in assembly on a DRAINING line ends, and the line enters DISABLED (R53, log 11). -/
def execLineDrainComplete (l : Fin 8) (how : ReportEnd) (s : State) : Host.Outcome State Fault Refusal :=
  match (s.line l).mode, (s.line l).assembler, how with
  | .draining, .collect .., .cutOff => taken (s.drainReport l .framing)
  | .draining, .collect .., .ninth chars =>
    match s.reportFrom l chars with
    | some raw => taken (s.drainReport l (judge l raw))
    | none => noEvent s
  | _, _, _ => noEvent s

/-! ### Line control (section 3.5) -/

/-- DISABLE (R52). -/
def State.disableLine (s : State) (l : Fin 8) : State × Status :=
  let x := s.line l
  match x.mode, x.assembler with
  | .enabled, .collect .. => (s.setLine l { x with mode := .draining }, .done)
  | .enabled, _ => (s.enterDisabled l, .done)
  | .quarantined, _ => (s.enterDisabled l, .done)
  | .draining, _ => (s, .done)
  | .disabled, _ => (s, .done)

/-- ENABLE (R54). -/
def State.enableLine (s : State) (l : Fin 8) : State × Status :=
  let x := s.line l
  let fresh : LineState := { mode := .enabled, assembler := .settle, buffer := none, streak := 0 }
  match x.mode with
  | .disabled => (s.setLine l fresh, .done)
  | .quarantined => (s.setLine l fresh, .done)
  | .draining => (s.setLine l { x with mode := .enabled }, .done)
  | .enabled => (s, .badState)

/-! ### The report engine (section 3.6) -/

/-- The lines in the order the search goes: from the one after the pointer, wrapping from 7 to 0 (R55). -/
def takeOrder (pointer : Fin 8) : List (Fin 8) := lineNumbers.map (fun i => pointer + 1 + i)

/-- The line a take would take from, and its report (R55). -/
def State.nextReport (s : State) : Option (Fin 8 × Report) :=
  (takeOrder s.reportPointer).findSome? (fun l => (s.line l).buffer.map (fun rep => (l, rep)))

/-- The in-use approach a line serves as check-in line (R57). -/
def State.checkInApproach (s : State) (l : Fin 8) : Option (Fin 8) :=
  approachNumbers.find? (fun ap => (s.approach ap).inUse && (s.approach ap).checkIn = some l)

/-- The in-use approach a line serves as check-out line (R57). -/
def State.checkOutApproach (s : State) (l : Fin 8) : Option (Fin 8) :=
  approachNumbers.find? (fun ap => (s.approach ap).inUse && (s.approach ap).checkOut = some l)

/-- A report taken in ACTIVE is mapped and handed to the request table (R57, R58). -/
def State.handReport (s : State) (rep : Report) : State :=
  match rep.kind with
  | .checkIn =>
    match s.checkInApproach rep.line with
    | some ap => s.takeCheckIn rep ap
    | none => s.count (.beacon rep.line .unmapped)
  | .checkOut =>
    match s.checkOutApproach rep.line with
    | some ap => s.takeCheckOut rep ap
    | none => s.count (.beacon rep.line .unmapped)
  | .cancel => s.takeCancel rep

/-- REPORT_TAKE: the report engine takes one report and deals with it (R55 to R59). -/
def execReportTake (s : State) : Host.Outcome State Fault Refusal :=
  match s.nextReport with
  | none => noEvent s
  | some (l, rep) =>
    let s1 := { s.setLine l { s.line l with buffer := none } with reportPointer := l }.count (.beacon l .reportsGood)
    if s1.mode = .active then taken (s1.handReport rep) else taken s1

end Sys2Proof.Machine
end

