-- ==== Sys2Proof/Machine/Corridor.lean ====
section
/-! DEFINITION. The corridor ports (02_corridor_ports_and_relay.md): taking a frame, routing, consuming and relaying, the
transmit side, the port timers, and the three port actions. -/

namespace Sys2Proof.Machine

/-! ### Routing (section 2.3) -/

/-- A consumed frame is offered to the local inbound queue (R23). -/
def State.consume (s : State) (p : Port) (f : LinkFrame) : State :=
  if s.inbound.length < Config.inboundCapacity then { s with inbound := s.inbound ++ [{ port := p, frame := f }] }
  else (s.count (.loc .inboundDropped)).raise .inboundFull

/-- A relayed frame: as it arrived, but with a hop limit one less, its upper two bits 0 (R7). -/
def LinkFrame.relayed (f : LinkFrame) : LinkFrame := { f with hop := byteOf (low6 f.hop - 1) }

/-- A frame taken on a port is handed to the relay (R24). -/
def State.relay (s : State) (p : Port) (f : LinkFrame) : State :=
  if low6 f.hop = 0 then s.count (.port p .hopExpired)
  else if (s.port p.other).mode ≠ .enabled then s.count (.port p .relayBlocked)
  else if s.fits p.other f.relayed then s.enqueue p.other { frame := f.relayed, ownAlert := false }
  else (s.count (.port p .relayDroppedFull)).raise .linkDrop

/-- A frame is addressed to this junction: never in mode UNADDRESSED (R22). -/
def State.addressedHere (s : State) (f : LinkFrame) : Bool :=
  decide (s.mode ≠ .unaddressed) && low6 f.dest = s.address.toNat

/-- A routed frame is consumed, relayed or both (R22). -/
def State.route (s : State) (p : Port) (f : LinkFrame) : State :=
  if s.addressedHere f then s.consume p f
  else if low6 f.dest = 63 ∧ f.kind = kindTime then (s.consume p f).relay p f
  else s.relay p f

/-! ### Taking a frame (section 2.2) -/

/-- A HOLD acts on the held flag (R20). -/
def State.takeHold (s : State) (p : Port) : State :=
  let s1 := s.count (.port p .holdsReceived)
  s1.setPort p { s1.port p with held := true, holdTimer := some s.params.holdLimit }

/-- A RESUME acts on the held flag (R21). -/
def State.takeResume (s : State) (p : Port) : State :=
  if (s.port p).held then s.setPort p { s.port p with held := false, holdTimer := none } else s

/-- What every valid frame taken does first: RX_GOOD, the silence timer restarted unless the port is DRAINING, SILENT
cleared (R19). -/
def State.heardFrame (s : State) (p : Port) : State :=
  let s1 := s.count (.port p .rxGood)
  let x := s1.port p
  s1.setPort p
    { x with
      silent := false
      silenceTimer := if x.mode = .enabled then some s.params.silenceLimit else x.silenceTimer }

/-- A valid frame is dealt with by its kind (R19). -/
def State.dealByKind (s : State) (p : Port) (f : LinkFrame) : State :=
  if f.kind = kindFill then s
  else if f.kind = kindHold then s.takeHold p
  else if f.kind = kindResume then s.takeResume p
  else s.route p f

/-- A frame result taken as on an ENABLED port (R18, R19). -/
def State.takeFrame (s : State) (p : Port) : RxResult → State
  | .valid f => (s.heardFrame p).dealByKind p f
  | .crcError => (s.count (.port p .rxCrcErr)).raise .linkCrc
  | .lengthError => (s.count (.port p .rxLengthErr)).raise .linkCrc

/-- A frame result handed to its port (R18). The marked frame of a DRAINING port is then no longer under way (R38). -/
def State.frameResult (s : State) (p : Port) (res : RxResult) : State :=
  let x := s.port p
  match x.mode with
  | .enabled => s.takeFrame p res
  | .draining =>
    if x.rxMarked then (s.setPort p { x with rxMarked := false }).takeFrame p res
    else s.count (.port p .rxWhileDisabled)
  | .disabled => s.count (.port p .rxWhileDisabled)

/-- The receiver of a port replaced. -/
def State.setReceiver (s : State) (p : Port) (r : Receiver) : State := s.setPort p { s.port p with receiver := r }

/-- The receiver and the result when a frame ends with the last of these characters (R4, log 8). -/
def State.frameFrom (s : State) (p : Port) (chars : List SerialChar) : Option (Receiver × RxResult) :=
  match runChars Receiver.char (s.port p).receiver chars with
  | .ended r res => some (r, res)
  | .going _ => none
  | .overran => none

/-- FRAME_START: a start byte with a good stop bit arrives in HUNT, and the characters behind it that do not end the
frame (R4, log 8). -/
def execFrameStart (p : Port) (more : List SerialChar) (s : State) : Host.Outcome State Fault Refusal :=
  if (s.port p).receiver = .hunt then
    match runChars Receiver.char .hunt ({ data := 0x7E, stopGood := true } :: more) with
    | .going r => taken (s.setReceiver p r)
    | .ended .. => noEvent s
    | .overran => noEvent s
  else noEvent s

/-- VALID_FRAME: the receiver ends the frame as valid and hands it to its port (R4, R5, R18, R19). -/
def execValidFrame (p : Port) (chars : List SerialChar) (s : State) : Host.Outcome State Fault Refusal :=
  match s.frameFrom p chars with
  | some (r, .valid f) => taken ((s.setReceiver p r).frameResult p (.valid f))
  | _ => noEvent s

/-- CRC_ERROR: the receiver ends the frame as a CRC error (R4, R5, R18). -/
def execCrcError (p : Port) (chars : List SerialChar) (s : State) : Host.Outcome State Fault Refusal :=
  match s.frameFrom p chars with
  | some (r, .crcError) => taken ((s.setReceiver p r).frameResult p .crcError)
  | _ => noEvent s

/-- LENGTH_ERROR: the receiver ends the frame as a length error and goes to QUIET (R4, R5, R18). -/
def execLengthError (p : Port) (chars : List SerialChar) (s : State) : Host.Outcome State Fault Refusal :=
  match s.frameFrom p chars with
  | some (r, .lengthError) => taken ((s.setReceiver p r).frameResult p .lengthError)
  | _ => noEvent s

/-- CORRIDOR_RX_IDLE: the line lies idle for two byte-times; a frame in progress ends as a CRC error, and the receiver is
in HUNT (R4, R5). -/
def execCorridorRxIdle (p : Port) (s : State) : Host.Outcome State Fault Refusal :=
  match (s.port p).receiver.idle with
  | (r, none) => taken (s.setReceiver p r)
  | (r, some res) => taken ((s.setReceiver p r).frameResult p res)

/-! ### The transmit side (section 2.5) -/

/-- The pending control frame is started; a HOLD is counted (R28). -/
def State.startControl (s : State) (p : Port) (c : ControlFrame) : State :=
  let s1 := s.setPort p
    { s.port p with pendingControl := none, sending := some { origin := .control c, frame := s.controlFrame c } }
  match c with
  | .hold => s1.count (.port p .holdsSent)
  | .resume => s1

/-- The frame at the head of the queue is started; it stays in the queue until its end (R28, R25). -/
def State.startQueued (s : State) (p : Port) (f : QueuedFrame) : State :=
  s.setPort p { s.port p with sending := some { origin := .queue, frame := f.frame } }

/-- A FILL is started (R28, R30). -/
def State.startFill (s : State) (p : Port) : State :=
  s.setPort p { s.port p with sending := some { origin := .fill, frame := s.fillFrame } }

/-- What the transmit side of an ENABLED port with a free line starts (R28). -/
inductive TxChoice where
  | control (c : ControlFrame)
  | queued (f : QueuedFrame)
  | fill
  | nothing
  deriving DecidableEq, Repr

/-- The first of the three that applies (R28). -/
def PortState.choice (x : PortState) : TxChoice :=
  match x.pendingControl, x.queue with
  | some c, _ => .control c
  | none, [] => if x.fillTimer = some 0 then .fill else .nothing
  | none, f :: _ =>
    if x.held then (if x.fillTimer = some 0 then .fill else .nothing) else .queued f

/-- The chosen frame is started; none when nothing applies. -/
def State.startChosen (s : State) (p : Port) : TxChoice → Option State
  | .control c => some (s.startControl p c)
  | .queued f => some (s.startQueued p f)
  | .fill => some (s.startFill p)
  | .nothing => none

/-- TX_START: the free line of an ENABLED port starts the first frame that applies (R28). -/
def execTxStart (p : Port) (s : State) : Host.Outcome State Fault Refusal :=
  let x := s.port p
  if x.mode = .enabled ∧ x.sending = none then
    match s.startChosen p x.choice with
    | some s' => taken s'
    | none => noEvent s
  else noEvent s

/-- The head of a queue leaves it, its transmission ended; an ALERT of this engine is told to the attention unit (R29,
R199). -/
def State.dropSent (s : State) (p : Port) : State :=
  match (s.port p).queue with
  | [] => s
  | f :: rest =>
    let s1 := s.setQueue p rest
    if f.ownAlert then s1.alertGone else s1

/-- The line of a port is free again, and an ENABLED port restarts its fill timer (R29). -/
def State.freeLine (s : State) (p : Port) : State :=
  let x := s.port p
  s.setPort p
    { x with
      sending := none
      txMarked := false
      fillTimer := if x.mode = .enabled then some Config.fillPeriod else x.fillTimer }

/-- FRAME_TX_END: the frame on the line is wholly sent (R29). The next frame starts at the next TX_START (log 12). TX_FRAMES
is counted before an ALERT of this engine lowers the alert count (R199): DESIGN CHOICE, log 27. -/
def execFrameTxEnd (p : Port) (s : State) : Host.Outcome State Fault Refusal :=
  match (s.port p).sending with
  | none => noEvent s
  | some x =>
    let s1 := (s.count (.port p .txFrames)).freeLine p
    match x.origin with
    | .queue => taken (s1.dropSent p)
    | .control _ => taken s1
    | .fill => taken s1

/-! ### Port timers (R30, R31, R33, R36) -/

/-- FILL_TIMER_EXPIRY: the fill timer of an ENABLED port runs out; a FILL is started when the line is free and nothing else
may be sent (R30). -/
def execFillTimerExpiry (p : Port) (s : State) : Host.Outcome State Fault Refusal :=
  let x := s.port p
  if x.mode = .enabled ∧ x.fillTimer.isSome then
    let s1 := s.setPort p { x with fillTimer := some 0 }
    if x.sending = none ∧ (s1.port p).choice = .fill then taken (s1.startFill p) else taken s1
  else noEvent s

/-- HOLD_TIMER_EXPIRY: the held flag clears, HOLD_EXPIRIES is counted and HOLD_EXPIRED raised, in every port state (R31). -/
def execHoldTimerExpiry (p : Port) (s : State) : Host.Outcome State Fault Refusal :=
  let x := s.port p
  match x.holdTimer with
  | none => noEvent s
  | some _ =>
    taken (((s.setPort p { x with held := false, holdTimer := none }).count (.port p .holdExpiries)).raise .holdExpired)

/-- HOLD_REPEAT_EXPIRY: the timer is restarted at half the hold limit, and an ENABLED port sets HOLD pending (R33). -/
def execHoldRepeatExpiry (p : Port) (s : State) : Host.Outcome State Fault Refusal :=
  let x := s.port p
  match x.holdRepeat with
  | none => noEvent s
  | some _ =>
    taken (s.setPort p
      { x with
        holdRepeat := some (s.params.holdLimit / 2)
        pendingControl := if x.mode = .enabled then some .hold else x.pendingControl })

/-- SILENCE_TIMER_EXPIRY: SILENT is set, NEIGHBOR_SILENT raised, the timer stays stopped, and a hold ends uncounted (R36). -/
def execSilenceTimerExpiry (p : Port) (s : State) : Host.Outcome State Fault Refusal :=
  let x := s.port p
  if x.mode = .enabled ∧ x.silenceTimer.isSome then
    taken ((s.setPort p
      { x with
        silent := true
        silenceTimer := none
        held := false
        holdTimer := if x.held then none else x.holdTimer }).raise .neighborSilent)
  else noEvent s

/-! ### Port control (section 2.8) -/

/-- DISABLE (R37). -/
def State.disablePort (s : State) (p : Port) : State × Status :=
  let x := s.port p
  if x.mode = .enabled then
    let rx := x.receiver.inProgress
    let tx := x.sending.isSome
    (s.setPort p
      { x with
        mode := if rx || tx then .draining else .disabled
        rxMarked := rx
        txMarked := tx
        fillTimer := none
        silenceTimer := none }, .done)
  else (s, .done)

/-- ENABLE (R39). -/
def State.enablePort (s : State) (p : Port) : State × Status :=
  let x := s.port p
  if x.mode = .enabled then (s, .badState)
  else
    ((s.setPort p
      { x with
        mode := .enabled
        rxMarked := false
        txMarked := false
        silenceTimer := some s.params.silenceLimit
        fillTimer := some Config.fillPeriod }).evalFlow p, .done)

/-- One frame removed by a RESET is counted, and an ALERT of this engine is told to the attention unit (R40, R199). -/
def State.flushFrame (s : State) (p : Port) (f : QueuedFrame) : State :=
  let s1 := s.count (.port p .flushed)
  if f.ownAlert then s1.alertGone else s1

/-- RESET: the frames are counted head first (log 14), the flags cleared, and the other port's flow control evaluated
(R40). -/
def State.resetPort (s : State) (p : Port) : State × Status :=
  if (s.port p).mode = .disabled then
    let s1 := forEach (s.port p).queue (fun f t => t.flushFrame p f) s
    let s2 := s1.setPort p
      { s1.port p with
        held := false
        holding := false
        silent := false
        pendingControl := none
        holdTimer := none
        holdRepeat := none }
    (s2.setQueue p [], .done)
  else (s, .badState)

/-- DRAIN_COMPLETE: a DRAINING port none of whose marked frames is still under way becomes DISABLED (R38). -/
def execDrainComplete (p : Port) (s : State) : Host.Outcome State Fault Refusal :=
  let x := s.port p
  if x.mode = .draining ∧ x.rxMarked = false ∧ x.txMarked = false then
    taken (s.setPort p { x with mode := .disabled })
  else noEvent s

end Sys2Proof.Machine
end

