-- ==== Sys2Proof/Machine/Handler.lean ====
section
/-! DEFINITION. The local frame handler (09_management_requests_and_operating_modes.md section 9.2) and what every request
shares (section 9.3): which row of the table deals with a frame, the take of the head of the local inbound queue, and the
REPLY. The meanings of TIME, NOTICE_RECEIVE, UNKNOWN_KIND and UNKNOWN_REQUEST are here. -/

namespace Sys2Proof.Machine

/-! ### Which row deals with a frame -/

/-- The rows of the table that take the frame at the head of the local inbound queue. -/
inductive HandlerRow where
  | time | notice | unknownKind | unknownRequest | identify | readStatus | readTable | writeEntry | verifyTable
  | readRecords | readSlots | withdraw | portDisable | portEnable | portReset | lineDisable | lineEnable
  | readCounters | readAttention | commission | decommission
  deriving DecidableEq, Repr

/-- The row of a REQUEST, by its request code, and for the two control requests by their action (section 9.3). A PORT
CONTROL or LINE CONTROL whose action is absent or not listed is answered BAD_ARG by the DISABLE row (DEDUCED, log 9). -/
def requestRow (body : List Byte) : HandlerRow :=
  match byteAt body 0 with
  | 0x01 => .identify
  | 0x02 => .readStatus
  | 0x03 => .readTable
  | 0x04 => .writeEntry
  | 0x05 => .verifyTable
  | 0x06 => .readRecords
  | 0x07 => .readSlots
  | 0x08 => .withdraw
  | 0x09 => if byteAt body 2 = 1 then .portEnable else if byteAt body 2 = 2 then .portReset else .portDisable
  | 0x0A => if byteAt body 2 = 1 then .lineEnable else .lineDisable
  | 0x0B => .readCounters
  | 0x0C => .readAttention
  | 0x0D => .commission
  | 0x0E => .decommission
  | _ => .unknownRequest

/-- The row of a frame, by its kind (R175). FILL, HOLD and RESUME, which never come here, are taken as an unknown kind
(DEDUCED, log 22). -/
def rowOf (f : LinkFrame) : HandlerRow :=
  if f.kind = kindTime then .time
  else if f.kind = kindNotice then .notice
  else if f.kind = kindRequest then requestRow f.body
  else .unknownKind

/-- The head of the local inbound queue removed, when this row deals with it (R175). -/
def State.takeHead (s : State) (row : HandlerRow) : Option (InboundFrame × State) :=
  match s.inbound with
  | [] => none
  | x :: rest => if rowOf x.frame = row then some (x, { s with inbound := rest }) else none

/-! ### Replies (R178) -/

/-- What a request is answered with. -/
structure Answer where
  status : Status
  results : List Byte
  deriving DecidableEq, Repr

/-- An answer that carries no results. -/
def Answer.plain (st : Status) : Answer := { status := st, results := [] }

/-- An answer DONE with results. -/
def Answer.doneWith (results : List Byte) : Answer := { status := .done, results := results }

/-- The answer INCONSISTENT, with the check code and the index (R63, R191). -/
def Answer.inconsistent (f : Failure) : Answer :=
  { status := .inconsistent, results := [byteOf f.1.value, byteOf f.2] }

/-- The REPLY to a REQUEST (R6, R178); a REQUEST without a code is answered with request code 00h (R177). -/
def State.replyFrame (s : State) (request : LinkFrame) (a : Answer) : LinkFrame :=
  composeFrame 0 s.address kindReply Config.composedHopLimit request.tag
    (byteOf (byteAt request.body 0) :: byteOf a.status.value :: a.results)

/-- The REPLY is offered to the port the REQUEST was consumed on; one that does not fit is dropped and counted (R178). -/
def State.reply (s : State) (x : InboundFrame) (a : Answer) : State :=
  let f := s.replyFrame x.frame a
  if s.fits x.port f then s.enqueue x.port { frame := f, ownAlert := false } else s.count (.loc .repliesDropped)

/-- A request of a row is taken from the head of the queue, carried out, and answered, in one event (R175, R177, R178). -/
def request (row : HandlerRow) (carryOut : List Byte → State → State × Answer) (s : State) :
    Host.Outcome State Fault Refusal :=
  match s.takeHead row with
  | none => noEvent s
  | some (x, s1) =>
    let done := carryOut x.frame.body s1
    taken (done.1.reply x done.2)

/-! ### Frames that are no known request -/

/-- A valid TIME's value (R176). -/
def readTime (f : LinkFrame) : Option Nat :=
  if f.body.length = 3 ∧ word24At f.body 0 ≤ Config.lastTenth then some (word24At f.body 0) else none

/-- TIME: a valid TIME sets the corridor time and the time-set flag; an invalid one is discarded (R176). -/
def execTime (s : State) : Host.Outcome State Fault Refusal :=
  match s.takeHead .time with
  | none => noEvent s
  | some (x, s1) =>
    match readTime x.frame with
    | none => taken s1
    | some t => taken { s1 with corridorTime := t, timeSet := true }

/-- CORRIDOR_TIME_WRAP: the corridor time passes 863999 and goes to 0; the time-set flag is kept (R176, log 19). -/
def execCorridorTimeWrap (s : State) : Host.Outcome State Fault Refusal := taken { s with corridorTime := 0 }

/-- NOTICE_RECEIVE: the notice unit takes the NOTICE (R167 to R170). -/
def execNoticeReceive (s : State) : Host.Outcome State Fault Refusal :=
  match s.takeHead .notice with
  | none => noEvent s
  | some (x, s1) => taken (s1.noticeFrameTaken x.frame)

/-- UNKNOWN_KIND: a REPLY, an ALERT or a frame of unknown kind is discarded and counted (R175). -/
def execUnknownKind (s : State) : Host.Outcome State Fault Refusal :=
  match s.takeHead .unknownKind with
  | none => noEvent s
  | some (_, s1) => taken (s1.count (.loc .unknownKind))

/-- UNKNOWN_REQUEST: a REQUEST with an unknown or missing code is answered UNKNOWN_REQUEST and changes nothing (R177). -/
def execUnknownRequest (s : State) : Host.Outcome State Fault Refusal :=
  request .unknownRequest (fun _ t => (t, .plain .unknownRequest)) s

end Sys2Proof.Machine
end

