-- ==== Sys2Proof/Machine/TableRequests.lean ====
section
/-! DEFINITION. The requests of the table store (04_loaded_tables.md sections 4.2 and 4.7): READ TABLE, WRITE ENTRY with the
retirement of an approach (R68) and the split change (R27), and VERIFY TABLE. -/

namespace Sys2Proof.Machine

/-- The four tables. -/
inductive Table where
  | approach
  | route
  | conflicts
  | params
  deriving DecidableEq, Repr

/-- The table of a code (R189). -/
def tableOfCode : Nat → Option Table
  | 0 => some .approach
  | 1 => some .route
  | 2 => some .conflicts
  | 3 => some .params
  | _ => none

/-- The code of a table (R189). -/
def Table.code : Table → Nat
  | .approach => 0
  | .route => 1
  | .conflicts => 2
  | .params => 3

/-- The last index of a table (R63). -/
def Table.lastIndex : Table → Nat
  | .approach => 7
  | .route => 63
  | .conflicts => 0
  | .params => 0

/-- The largest count of a READ TABLE or VERIFY TABLE (R62, R79). -/
def Table.maxCount : Table → Nat
  | .approach => 3
  | .route => 6
  | .conflicts => 1
  | .params => 1

/-- A table generation (R60). -/
def State.tableGen (s : State) : Table → Word16
  | .approach => s.tableGens.approach
  | .route => s.tableGens.route
  | .conflicts => s.tableGens.conflicts
  | .params => s.tableGens.params

/-- An entry generation; for CONFLICTS and PARAMS it is the table generation (R60). -/
def State.entryGen (s : State) (t : Table) (i : Nat) : Word16 :=
  match t with
  | .approach => s.approachGens[Fin.ofNat 8 i]
  | .route => s.routeGens[Fin.ofNat 64 i]
  | .conflicts => s.tableGens.conflicts
  | .params => s.tableGens.params

/-- The contents of an entry (R190). -/
def State.entryBytes (s : State) (t : Table) (i : Nat) : List Byte :=
  match t with
  | .approach => (s.approach (Fin.ofNat 8 i)).raw.toBytes
  | .route => s.routes[Fin.ofNat 64 i].raw.toBytes
  | .conflicts => s.conflictBytes
  | .params => s.params.raw.toBytes

/-! ### READ TABLE (R62) -/

/-- The results of a READ TABLE reply (R191). -/
def State.tableResults (s : State) (t : Table) (start count : Nat) : List Byte :=
  let n := min count (t.lastIndex + 1 - start)
  [byteOf t.code] ++ bytes16 (s.tableGen t).toNat ++ [byteOf start, byteOf n]
    ++ (List.range n).flatMap (fun j => bytes16 (s.entryGen t (start + j)).toNat ++ s.entryBytes t (start + j))

/-- A start index inside the table and a count in its range (R62, R79, R81). -/
def Table.goodRun (t : Table) (start count : Nat) : Bool :=
  decide (start ≤ t.lastIndex ∧ 1 ≤ count ∧ count ≤ t.maxCount)

/-- READ TABLE carried out (R62, R81). -/
def readTableRequest (b : List Byte) (s : State) : State × Answer :=
  match tableOfCode (byteAt b 1) with
  | none => (s, .plain .badArg)
  | some t =>
    if b.length < 4 ∨ t.goodRun (byteAt b 2) (byteAt b 3) = false then (s, .plain .badArg)
    else (s, .doneWith (s.tableResults t (byteAt b 2) (byteAt b 3)))

/-- READ_TABLE (R62). -/
def execReadTable (s : State) : Host.Outcome State Fault Refusal := request .readTable readTableRequest s

/-! ### WRITE ENTRY (R63 to R78) -/

/-- The bytes that contents of a table take: all of them must be in the body (R177, R190). A CONFLICTS write of more than 28
pairs needs only its number, which refuses it (DEDUCED, log 15). -/
def Table.contentLength (t : Table) (contents : List Byte) : Nat :=
  match t with
  | .approach => 14
  | .route => 6
  | .conflicts => if 28 < byteAt contents 0 then 1 else 1 + byteAt contents 0
  | .params => 42

/-- An approach is busy (R68). -/
def State.busy (s : State) (ap : Fin 8) : Bool :=
  decide (s.mode = .active)
    && (recordSlots.any (fun r => (s.record r).any (fun x => x.approach = ap)) || s.approachHeld ap)

/-- Every record on an approach is removed as RETIRED (R68, R111). -/
def State.retireRecords (s : State) (ap : Fin 8) : State :=
  forEach recordSlots (fun r t => if (t.record r).any (fun x => x.approach = ap) then t.takeOut r .retired else t) s

/-- A busy approach is retired: its records are removed, and its open slot goes to CLOSING with cause RETIRE (R68, R135). -/
def State.retire (s : State) (ap : Fin 8) : State :=
  let s1 := s.retireRecords ap
  match s1.openSlotOf ap with
  | none => s1
  | some k => s1.closeSlot k .retire

/-- An APPROACH entry is written and its generations raised (R65, R60). -/
def State.storeApproach (s : State) (ap : Fin 8) (e : ApproachEntry) : State :=
  { s with
    approaches := s.approaches.set ap e
    approachGens := s.approachGens.set ap (s.approachGens[ap] + 1)
    tableGens := { s.tableGens with approach := s.tableGens.approach + 1 } }

/-- The answer DONE with a new entry generation (R65, R191). -/
def Answer.written (gen : Word16) : Answer := .doneWith (bytes16 gen.toNat)

/-- An APPROACH write past its generation test (R63 tests 4 and 6, R65). -/
def State.writeApproach (s : State) (ap : Fin 8) (force : Bool) (contents : List Byte) : State × Answer :=
  let x := RawApproach.ofBytes contents
  match firstFailure (s.approachChecks ap x) with
  | some f => (s, .inconsistent f)
  | none =>
    if s.busy ap ∧ force = false then (s, .plain .inUse)
    else
      let s1 := if s.busy ap then s.retire ap else s
      ((s1.storeApproach ap x.entry).markDue, .written (s.approachGens[ap] + 1))

/-- A ROUTE entry is written and its generations raised (R65, R60). -/
def State.storeRoute (s : State) (i : Fin 64) (e : RouteEntry) : State :=
  { s with
    routes := s.routes.set i e
    routeGens := s.routeGens.set i (s.routeGens[i] + 1)
    tableGens := { s.tableGens with route := s.tableGens.route + 1 } }

/-- A ROUTE write past its generation test (R63 tests 4 and 5, R65). -/
def State.writeRoute (s : State) (i : Fin 64) (contents : List Byte) : State × Answer :=
  let x := RawRoute.ofBytes contents
  match firstFailure x.fieldChecks with
  | some f => (s, .inconsistent f)
  | none =>
    match s.duplicateRoute i x.entry with
    | some j => (s, { status := .duplicate, results := [byteOf j.val] })
    | none => (s.storeRoute i x.entry, .written (s.routeGens[i] + 1))

/-- The CONFLICTS set is replaced whole and its generation raised (R74, R60). -/
def State.storeConflicts (s : State) (pairs : List (Fin 8 × Fin 8)) : State :=
  { s with
    conflicts := pairs
    tableGens := { s.tableGens with conflicts := s.tableGens.conflicts + 1 } }

/-- A CONFLICTS write past its generation test (R63 test 4, R74). -/
def State.writeConflicts (s : State) (contents : List Byte) : State × Answer :=
  match firstFailure (conflictChecks (byteAt contents 0) (rawPairs contents)) with
  | some f => (s, .inconsistent f)
  | none => (s.storeConflicts (conflictSet (rawPairs contents)), .written (s.tableGens.conflicts + 1))

/-- PARAMS are replaced whole and their generation raised (R78, R60). -/
def State.storeParams (s : State) (x : Params) : State :=
  { s with
    params := x
    tableGens := { s.tableGens with params := s.tableGens.params + 1 } }

/-- A port's flow control is evaluated when a write changed its setting or thresholds (R32, R34, R78). -/
def State.flowAfter (s : State) (old : Params) (p : Port) : State :=
  if s.params.flow p = old.flow p then s else s.evalFlow p

/-- The partition tests of a PARAMS write (R27, R77): none when they pass. -/
def State.partitionTests (s : State) (x : RawParams) : Option Answer :=
  if x.split ≠ s.params.split ∧ s.splitInUse x.split then some (.plain .inUse)
  else (firstFailure (thresholdChecks x.split x)).map .inconsistent

/-- A PARAMS write past its generation test (R63 tests 4 and 7, R78). -/
def State.writeParams (s : State) (contents : List Byte) : State × Answer :=
  let x := RawParams.ofBytes contents
  match firstFailure (s.paramsChecks x) with
  | some f => (s, .inconsistent f)
  | none =>
    match s.partitionTests x with
    | some a => (s, a)
    | none =>
      ((((s.storeParams x.entry).flowAfter s.params .a).flowAfter s.params .b).markDue,
        .written (s.tableGens.params + 1))

/-- A write past its arguments, mode and generation tests. -/
def State.writeContents (s : State) (t : Table) (i : Nat) (force : Bool) (contents : List Byte) : State × Answer :=
  match t with
  | .approach => s.writeApproach (Fin.ofNat 8 i) force contents
  | .route => s.writeRoute (Fin.ofNat 64 i) contents
  | .conflicts => s.writeConflicts contents
  | .params => s.writeParams contents

/-- WRITE ENTRY carried out: the tests of R63 in order, then the write. -/
def writeEntryRequest (b : List Byte) (s : State) : State × Answer :=
  match tableOfCode (byteAt b 1) with
  | none => (s, .plain .badArg)
  | some t =>
    let i := byteAt b 2
    let contents := b.drop 6
    if t.lastIndex < i ∨ b.length < 7 ∨ contents.length < t.contentLength contents ∨ 1 < byteAt b 5 then
      (s, .plain .badArg)
    else if t = .conflicts ∧ s.mode ≠ .standby then (s, .plain .badState)
    else if (s.entryGen t i).toNat ≠ word16At b 3 then (s, { status := .stale, results := s.tableResults t i 1 })
    else s.writeContents t i (byteAt b 5 = 1) (contents.take (t.contentLength contents))

/-- WRITE_ENTRY (R63). -/
def execWriteEntry (s : State) : Host.Outcome State Fault Refusal := request .writeEntry writeEntryRequest s

/-! ### VERIFY TABLE (R79 to R81) -/

/-- A supplied entry equals the stored one, generations aside (R80). A supplied CONFLICTS list is taken as a set whatever
its number of pairs, also above the 28 that R74 admits in a write: DESIGN CHOICE, log 26. -/
def State.sameEntry (s : State) (t : Table) (i : Nat) (supplied : List Byte) : Bool :=
  match t with
  | .approach => RawApproach.ofBytes supplied = (s.approach (Fin.ofNat 8 i)).raw
  | .route => RawRoute.ofBytes supplied = s.routes[Fin.ofNat 64 i].raw
  | .conflicts => (rawPairs supplied).all (fun q => !badPair q) && conflictSet (rawPairs supplied) = s.conflicts
  | .params => RawParams.ofBytes supplied = s.params.raw

/-- The next index of a walk, or none at the end of the table (R79). -/
def Table.nextIndex (t : Table) (descending : Bool) (i : Nat) : Option Nat :=
  if descending then (if i = 0 then none else some (i - 1))
  else if i < t.lastIndex then some (i + 1) else none

/-- The walk from an index with entries still to compare, some having matched (R79). -/
def State.verifyWalk (s : State) (t : Table) (descending : Bool) : Nat → Nat → List (List Byte) → Answer
  | _, matched, [] => { status := .isMatch, results := [byteOf matched] }
  | i, matched, e :: rest =>
    if s.sameEntry t i e = false then { status := .mismatch, results := [byteOf i, byteOf matched] }
    else if rest.isEmpty then { status := .isMatch, results := [byteOf (matched + 1)] }
    else
      match t.nextIndex descending i with
      | none => { status := .rangeEnd, results := [byteOf (matched + 1)] }
      | some j => s.verifyWalk t descending j (matched + 1) rest

/-- The bytes of one supplied entry. -/
def Table.suppliedLength (t : Table) (supplied : List Byte) : Nat :=
  match t with
  | .approach => 14
  | .route => 6
  | .conflicts => 1 + byteAt supplied 0
  | .params => 42

/-- Supplied bytes cut into entries of one length. -/
def entriesOf (count size : Nat) (supplied : List Byte) : List (List Byte) :=
  (List.range count).map (fun j => (supplied.drop (j * size)).take size)

/-- VERIFY TABLE carried out (R79, R80, R81). -/
def verifyTableRequest (b : List Byte) (s : State) : State × Answer :=
  match tableOfCode (byteAt b 1) with
  | none => (s, .plain .badArg)
  | some t =>
    let count := byteAt b 4
    let supplied := b.drop 5
    let size := t.suppliedLength supplied
    if b.length < 5 ∨ t.goodRun (byteAt b 2) count = false ∨ 1 < byteAt b 3 ∨ supplied.length ≠ count * size then
      (s, .plain .badArg)
    else (s, s.verifyWalk t (byteAt b 3 = 1) (byteAt b 2) 0 (entriesOf count size supplied))

/-- VERIFY_TABLE (R79). -/
def execVerifyTable (s : State) : Host.Outcome State Fault Refusal := request .verifyTable verifyTableRequest s

end Sys2Proof.Machine
end

