-- ==== Sys2Proof/Machine/Control.lean ====
section
/-! DEFINITION. The requests that act on the engine (09 sections 9.5 and 9.6): WITHDRAW, PORT CONTROL, LINE CONTROL,
COMMISSION and DECOMMISSION. -/

namespace Sys2Proof.Machine

/-! ### WITHDRAW (R183, R110) -/

/-- WITHDRAW carried out: the vehicle's record is removed as WITHDRAWN, or none is found. -/
def withdrawRequest (b : List Byte) (s : State) : State × Answer :=
  if b.length < 3 ∨ word16At b 1 = 0 then (s, .plain .badArg)
  else
    match s.findVehicle (word16At b 1) with
    | none => (s, .plain .notFound)
    | some r => (s.removeRecord r .withdrawn .withdraw, .plain .done)

/-- WITHDRAW (R183). -/
def execWithdraw (s : State) : Host.Outcome State Fault Refusal := request .withdraw withdrawRequest s

/-! ### PORT CONTROL (R184) -/

/-- The port of a code (R189). -/
def portOfCode : Nat → Option Port
  | 0 => some .a
  | 1 => some .b
  | _ => none

/-- PORT CONTROL carried out: the port and the action tested, then the action taken at the port (R177, R184). -/
def portControl (action : Nat) (act : Port → State → State × Status) (b : List Byte) (s : State) : State × Answer :=
  if b.length < 3 ∨ byteAt b 2 ≠ action then (s, .plain .badArg)
  else
    match portOfCode (byteAt b 1) with
    | none => (s, .plain .badArg)
    | some p => ((act p s).1, .plain (act p s).2)

/-- PORT_DISABLE (R37). -/
def execPortDisable (s : State) : Host.Outcome State Fault Refusal :=
  request .portDisable (portControl 0 (fun p t => t.disablePort p)) s

/-- PORT_ENABLE (R39). -/
def execPortEnable (s : State) : Host.Outcome State Fault Refusal :=
  request .portEnable (portControl 1 (fun p t => t.enablePort p)) s

/-- PORT_RESET (R40). -/
def execPortReset (s : State) : Host.Outcome State Fault Refusal :=
  request .portReset (portControl 2 (fun p t => t.resetPort p)) s

/-! ### LINE CONTROL (R184) -/

/-- LINE CONTROL carried out: the line and the action tested, then the action taken at the line (R177, R184). -/
def lineControl (action : Nat) (act : Fin 8 → State → State × Status) (b : List Byte) (s : State) : State × Answer :=
  if b.length < 3 ∨ byteAt b 2 ≠ action then (s, .plain .badArg)
  else
    match lineOfCode (byteAt b 1) with
    | none => (s, .plain .badArg)
    | some l => ((act l s).1, .plain (act l s).2)

/-- LINE_DISABLE (R52). -/
def execLineDisable (s : State) : Host.Outcome State Fault Refusal :=
  request .lineDisable (lineControl 0 (fun l t => t.disableLine l)) s

/-- LINE_ENABLE (R54). -/
def execLineEnable (s : State) : Host.Outcome State Fault Refusal :=
  request .lineEnable (lineControl 1 (fun l t => t.enableLine l)) s

/-! ### COMMISSION (R185, R186) -/

/-- COMMISSION carried out: in STANDBY, the whole-table checks, then mode ACTIVE. -/
def commissionRequest (_ : List Byte) (s : State) : State × Answer :=
  if s.mode = .standby then
    match firstFailure s.commissionChecks with
    | some f => (s, .inconsistent f)
    | none => ({ s with mode := .active }, .plain .done)
  else (s, .plain .badState)

/-- COMMISSION (R185, R186). -/
def execCommission (s : State) : Host.Outcome State Fault Refusal := request .commission commissionRequest s

/-! ### DECOMMISSION (R187, R134) -/

/-- A slot given up by a DECOMMISSION: an open one has its CANCEL or RELEASE placed, and it is IDLE at once, its timer
stopped; no lockout is started and no response timer (R134, R161). -/
def State.giveUp (s : State) (k : Fin 4) : State :=
  let x := s.slot k
  let s1 := if x.state.isOpen then s.place x.state.givingUp k else s
  (s1.setSlot k .idle).setSlotTimer k none

/-- Every record is removed as RETIRED (R111). -/
def State.retireAll (s : State) : State := forEach recordSlots (fun r t => t.takeOut r .retired) s

/-- What a DECOMMISSION does (R187, R134). -/
def State.decommission (s : State) : State :=
  let s1 := forEach callSlots (fun k t => t.giveUp k) s.retireAll
  { s1 with lockouts := Vector.replicate 8 none, evalDue := false, mode := .standby }

/-- DECOMMISSION carried out. -/
def decommissionRequest (_ : List Byte) (s : State) : State × Answer :=
  if s.mode = .active then (s.decommission, .plain .done) else (s, .plain .badState)

/-- DECOMMISSION (R187). -/
def execDecommission (s : State) : Host.Outcome State Fault Refusal := request .decommission decommissionRequest s

end Sys2Proof.Machine
end

