-- ==== Sys2Proof/Machine/PhasePort.lean ====
section
/-! DEFINITION. The phase port (07_the_phase_port.md): the ready line, the phase status, the controller's messages by slot
state, the slot timers and the output. -/

namespace Sys2Proof.Machine

/-! ### Receiving -/

/-- A message ends with the last of these characters: the receiver is back in HUNT and the message is given (R15). -/
def State.messageFrom (s : State) (chars : List SerialChar) : Option InMessage :=
  match runChars MsgReceiver.char s.msgReceiver chars with
  | .ended _ m => some m
  | .going _ => none
  | .overran => none

/-- The receiver back in HUNT. -/
def State.messageDone (s : State) : State := { s with msgReceiver := .hunt }

/-- The controller status replaced. -/
def State.setController (s : State) (c : Controller) : State := { s with controller := c }

/-- What every valid message does at its taking: UNRESPONSIVE clear and the consecutive-timeout count 0 (R144). -/
def State.heard (s : State) : State :=
  let s1 := s.setController { s.controller with unresponsive := false, timeoutCount := 0 }
  if s.controller.unresponsive then s1.markDue else s1

/-- A valid message is received: the receiver is in HUNT and R144 is done. -/
def State.validMessage (s : State) : State := s.messageDone.heard

/-- The non-IDLE slot that holds a call number (R145); none for a number outside 1 to 15 (R16). -/
def State.slotOfCall (s : State) (n : Nat) : Option (Fin 4) :=
  if 1 ≤ n ∧ n ≤ 15 then callSlots.find? (fun k => (s.slot k).state ≠ .idle && (s.slot k).call = some n) else none

/-- A stray message (R145, R152). -/
def State.stray (s : State) : State := s.count (.controller .strayMessages)

/-- An event counted on a slot's approach, if it has one. -/
def State.countOnSlot (s : State) (k : Fin 4) (c : ApproachCounter) : State :=
  match (s.slot k).approach with
  | none => s
  | some ap => s.count (.approach ap c)

/-! ### Messages by slot state (section 7.4) -/

/-- ACCEPT for a slot (R146, R152). -/
def State.acceptFor (s : State) (k : Fin 4) : State :=
  match (s.slot k).state with
  | .called =>
    ((s.countOnSlot k .accepts).setSlotTimer k (some { kind := .startLimit, left := s.params.startLimit })).advanceSlot
      k .granted
  | .granted => s.stray
  | .serving => s.stray
  | .closing => s.stray
  | .idle => s.stray

/-- The service of a slot begins: SERVICE_LIMIT at the requested duration plus 50 (R147). -/
def State.beginService (s : State) (k : Fin 4) : State :=
  (s.setSlotTimer k (some { kind := .serviceLimit, left := (s.slot k).duration.getD 0 + Config.serviceMargin })).advanceSlot
    k .serving

/-- START for a slot: in CALLED taken as an ACCEPT followed by a START (R147, R152). -/
def State.startFor (s : State) (k : Fin 4) : State :=
  match (s.slot k).state with
  | .called => (s.countOnSlot k .accepts).beginService k
  | .granted => s.beginService k
  | .serving => s.stray
  | .closing => s.stray
  | .idle => s.stray

/-- A denial: DENIES is counted, the slot goes to IDLE and its members return with the deny hold-off, and with its kind to
exclude for NEVER (R148). -/
def State.denySlot (s : State) (k : Fin 4) (reason : DenyReason) : State :=
  (s.countOnSlot k .denies).idleReturning k (some s.params.denyHoldOff)
    (match reason with
      | .never => (s.slot k).kind
      | .notNow => none)

/-- DENY for a slot (R148, R152). -/
def State.denyFor (s : State) (k : Fin 4) (reason : DenyReason) : State :=
  match (s.slot k).state with
  | .called => s.denySlot k reason
  | .granted => s.denySlot k reason
  | .serving => s.stray
  | .closing => s.stray
  | .idle => s.stray

/-- The end of a service: was serving is set, the slot goes to IDLE with its lockout, its members return, and an override
is counted and raised (R150). -/
def State.endServing (s : State) (k : Fin 4) (reason : EndReason) : State :=
  let s1 := (s.setSlot k { s.slot k with wasServing := true }).idleReturning k none none
  match reason, (s.slot k).approach with
  | .normal, _ => s1
  | _, none => s1.raise .serviceOverride
  | _, some ap => (s1.count (.approach ap .overrides)).raise .serviceOverride

/-- END for a slot (R149, R150, R151). -/
def State.endFor (s : State) (k : Fin 4) (reason : EndReason) : State :=
  match (s.slot k).state with
  | .called => s.denySlot k .notNow
  | .granted => s.denySlot k .notNow
  | .serving => s.endServing k reason
  | .closing => s.idleSlot k
  | .idle => s.stray

/-- A valid slot message matched by its call number: acted on for its slot, or stray (R145). -/
def State.forCall (s : State) (n : Nat) (act : Fin 4 → State → State) : State :=
  match s.slotOfCall n with
  | none => s.stray
  | some k => act k s

/-- MESSAGE_START: the sync byte A5h with a good stop bit arrives in HUNT, and the characters behind it that do not end
the message (R15, log 8). -/
def execMessageStart (more : List SerialChar) (s : State) : Host.Outcome State Fault Refusal :=
  match s.msgReceiver with
  | .collect .. => noEvent s
  | .hunt =>
    match runChars MsgReceiver.char .hunt ({ data := 0xA5, stopGood := true } :: more) with
    | .going r => taken { s with msgReceiver := r }
    | .ended .. => noEvent s
    | .overran => noEvent s

/-- PHASES (R141, R144). -/
def execPhases (chars : List SerialChar) (s : State) : Host.Outcome State Fault Refusal :=
  match s.messageFrom chars with
  | some (.phases green) =>
    let s1 := s.validMessage
    taken (s1.setController { s1.controller with phaseKnown := true, greenSet := green, phaseAge := 0 }).markDue
  | _ => noEvent s

/-- ACCEPT (R145, R146, R152). -/
def execAccept (chars : List SerialChar) (s : State) : Host.Outcome State Fault Refusal :=
  match s.messageFrom chars with
  | some (.accept n) => taken (s.validMessage.forCall n (fun k t => t.acceptFor k))
  | _ => noEvent s

/-- START (R145, R147, R152). -/
def execStart (chars : List SerialChar) (s : State) : Host.Outcome State Fault Refusal :=
  match s.messageFrom chars with
  | some (.start n) => taken (s.validMessage.forCall n (fun k t => t.startFor k))
  | _ => noEvent s

/-- DENY (R145, R148, R152). -/
def execDeny (chars : List SerialChar) (s : State) : Host.Outcome State Fault Refusal :=
  match s.messageFrom chars with
  | some (.deny n reason) => taken (s.validMessage.forCall n (fun k t => t.denyFor k reason))
  | _ => noEvent s

/-- END (R145, R149, R150, R151). -/
def execEnd (chars : List SerialChar) (s : State) : Host.Outcome State Fault Refusal :=
  match s.messageFrom chars with
  | some (.endService n reason) => taken (s.validMessage.forCall n (fun k t => t.endFor k reason))
  | _ => noEvent s

/-- INVALID_MESSAGE: a complete invalid message is counted in BAD_MESSAGES and discarded (R143). -/
def execInvalidMessage (chars : List SerialChar) (s : State) : Host.Outcome State Fault Refusal :=
  match s.messageFrom chars with
  | some .invalid => taken (s.messageDone.count (.controller .badMessages))
  | _ => noEvent s

/-- MESSAGE_CUT_OFF: the line lies idle in COLLECT; the message is cut off and counted as invalid (R15, R143). -/
def execMessageCutOff (s : State) : Host.Outcome State Fault Refusal :=
  match s.msgReceiver with
  | .hunt => noEvent s
  | .collect .. => taken (s.messageDone.count (.controller .badMessages))

/-- MESSAGE_TX_END: the oldest message is wholly sent and leaves the output; the next is then on the line (R139). -/
def execMessageTxEnd (s : State) : Host.Outcome State Fault Refusal :=
  match s.output with
  | [] => noEvent s
  | _ :: rest => taken { s with output := rest }

/-- READY_LINE_CHANGE: the input takes the other level, and the evaluation-due mark is set (R140). -/
def execReadyLineChange (level : ReadyLevel) (s : State) : Host.Outcome State Fault Refusal :=
  if s.controller.ready = level then noEvent s
  else taken (s.setController { s.controller with ready := level }).markDue

/-- PHASE_AGE_EXPIRY: the phase age reaches 30; the phase status becomes UNKNOWN and PHASE_STATUS_LOST is raised (R142). -/
def execPhaseAgeExpiry (s : State) : Host.Outcome State Fault Refusal :=
  if s.controller.phaseKnown then
    taken ((s.setController { s.controller with phaseKnown := false, phaseAge := Config.phaseAgeLimit }).raise
      .phaseStatusLost).markDue
  else noEvent s

/-! ### Slot timers (section 7.5) -/

/-- The kind of the timer a slot is running. -/
def State.timerKind (s : State) (k : Fin 4) : Option SlotTimerKind := (s.slotTimer k).map (fun t => t.kind)

/-- The consecutive-timeout count rises, up to 3; a rise to 3 while UNRESPONSIVE is clear sets it (R156). -/
def State.timeoutRise (s : State) : State :=
  let n := min Config.timeoutLimit (s.controller.timeoutCount + 1)
  let s1 := s.setController { s.controller with timeoutCount := n }
  if n = Config.timeoutLimit ∧ s.controller.unresponsive = false then
    (((s1.setController { s1.controller with unresponsive := true }).count
      (.controller .unresponsiveEntries)).raise .controllerUnresponsive).markDue
  else s1

/-- What every response timeout counts (R154, R155). -/
def State.responseMissed (s : State) : State := (s.count (.controller .timeouts)).timeoutRise

/-- RESPONSE_TIMEOUT: a CALLED slot closes with TIMEOUT, places CANCEL and returns its members; a CLOSING slot goes to
IDLE; TIMEOUTS is counted and the consecutive-timeout count rises (R154, R155, R156). -/
def execResponseTimeout (k : Fin 4) (s : State) : Host.Outcome State Fault Refusal :=
  if s.timerKind k = some .response then
    match (s.slot k).state with
    | .called => taken (s.closeReturning k .timeout).responseMissed
    | .closing => taken (s.idleSlot k).responseMissed
    | .idle => noEvent s
    | .granted => noEvent s
    | .serving => noEvent s
  else noEvent s

/-- START_LIMIT_EXPIRY: a GRANTED slot closes with START_LIMIT, places CANCEL and returns its members (R157). -/
def execStartLimitExpiry (k : Fin 4) (s : State) : Host.Outcome State Fault Refusal :=
  if s.timerKind k = some .startLimit ∧ (s.slot k).state = .granted then taken (s.closeReturning k .startLimit)
  else noEvent s

/-- SERVICE_LIMIT_EXPIRY: a SERVING slot closes with SERVICE_LIMIT, places RELEASE and returns its members (R158). -/
def execServiceLimitExpiry (k : Fin 4) (s : State) : Host.Outcome State Fault Refusal :=
  if s.timerKind k = some .serviceLimit ∧ (s.slot k).state = .serving then taken (s.closeReturning k .serviceLimit)
  else noEvent s

end Sys2Proof.Machine
end

