-- ==== Sys2Proof/Machine/Reading.lean ====
section
/-! DEFINITION. The requests that read the engine (09 section 9.4 and the layouts of R191): IDENTIFY, READ STATUS, READ
RECORDS, READ SLOTS, READ COUNTERS and READ ATTENTION. -/

namespace Sys2Proof.Machine

/-! ### IDENTIFY (R180) -/

/-- The code of a mode (R189). UNADDRESSED has none: that mode takes no request (R174). -/
def Mode.code : Mode → Nat
  | .unaddressed => 0
  | .standby => 1
  | .active => 2

/-- The contents of an IDENTIFY leaf (R180, R191). -/
def State.leaf (s : State) : Nat → Option (List Byte)
  | 0 => some (byteOf Config.highestLeaf :: Config.vendorMark)
  | 1 => some ([Config.partCode, Config.revision, 8, 8, 24, 4, 64].map byteOf)
  | 2 => some ([byteOf s.address.toNat, byteOf s.rawStraps.toNat, byteOf s.mode.code, byteOf (bit s.timeSet)]
      ++ bytes24 s.corridorTime)
  | 3 => some (bytes16 s.tableGens.approach.toNat ++ bytes16 s.tableGens.route.toNat
      ++ bytes16 s.tableGens.conflicts.toNat ++ bytes16 s.tableGens.params.toNat)
  | _ => none

/-- IDENTIFY carried out (R177, R180). -/
def identifyRequest (b : List Byte) (s : State) : State × Answer :=
  if b.length < 2 then (s, .plain .badArg)
  else
    match s.leaf (byteAt b 1) with
    | none => (s, .plain .badArg)
    | some contents => (s, .doneWith (byteOf (byteAt b 1) :: contents))

/-- IDENTIFY (R180). -/
def execIdentify (s : State) : Host.Outcome State Fault Refusal := request .identify identifyRequest s

/-! ### READ STATUS (R181) -/

/-- The code of a port state (R191). -/
def PortMode.code : PortMode → Nat
  | .enabled => 0
  | .draining => 1
  | .disabled => 2

/-- The three bytes of a port (R191). -/
def State.portBytes (s : State) (p : Port) : List Byte :=
  let x := s.port p
  [byteOf (x.mode.code + bit x.held * 4 + bit x.holding * 8 + bit x.silent * 16), byteOf (usedUnits x.queue),
   byteOf (s.partition p)]

/-- The code of a line state (R191). -/
def LineMode.code : LineMode → Nat
  | .enabled => 0
  | .draining => 1
  | .disabled => 2
  | .quarantined => 3

/-- The byte of a beacon line (R191). -/
def LineState.byte (x : LineState) : Byte := byteOf (x.mode.code + x.streak * 4 + bit x.buffer.isSome * 64)

/-- The code of a slot state (R191). -/
def SlotState.code : SlotState → Nat
  | .idle => 0
  | .called => 1
  | .granted => 2
  | .serving => 3
  | .closing => 4

/-- The flags byte of the controller status (R191). -/
def Controller.flagsByte (c : Controller) : Byte :=
  byteOf (bit (c.ready = .ready) + bit c.unresponsive * 2 + c.timeoutCount * 4 + bit c.phaseKnown * 16)

/-- The results of READ STATUS (R181, R191). -/
def State.statusBytes (s : State) : List Byte :=
  byteOf s.mode.code :: s.portBytes .a ++ s.portBytes .b ++ lineNumbers.map (fun l => (s.line l).byte)
    ++ [s.controller.flagsByte] ++ bytes16 s.controller.greenSet.toNat
    ++ [byteOf s.controller.phaseAge, byteOf s.occupied] ++ callSlots.map (fun k => byteOf (s.slot k).state.code)
    ++ [byteOf s.inbound.length]

/-- READ STATUS carried out. -/
def readStatusRequest (_ : List Byte) (s : State) : State × Answer := (s, .doneWith s.statusBytes)

/-- READ_STATUS (R181). -/
def execReadStatus (s : State) : Host.Outcome State Fault Refusal := request .readStatus readStatusRequest s

/-! ### READ RECORDS (R113) -/

/-- The code of a basis (R191). -/
def Basis.code : Basis → Nat
  | .forecast => 0
  | .suspect => 1
  | .confirmed => 2

/-- The code of a record state (R191). -/
def RecordState.code : RecordState → Nat
  | .waiting => 0
  | .called => 1
  | .granted => 2
  | .serving => 3

/-- The 17 bytes of a record (R191). -/
def Record.bytes (x : Record) (r : Fin 24) : List Byte :=
  [byteOf ((x.callSlot.elim 7 Fin.val) * 32 + r.val)] ++ bytes16 x.vehicle ++ bytes16 (routeWord x.route x.direction)
    ++ [byteOf (x.approach.val * 16 + x.basis.code * 4 + x.state.code),
        byteOf (x.level * 32 + x.retry * 8 + x.excluded.bits), byteOf (x.upstream.getD 0), writeLateness x.lateness]
    ++ pair12 x.eta x.lifetime ++ bytes16 (x.holdOff.getD 0) ++ bytes24 x.created

/-- The bytes of the record in a slot. -/
def State.recordBytes (s : State) (r : Fin 24) : List Byte :=
  match s.record r with
  | none => []
  | some x => x.bytes r

/-- The occupied slots at or above a start slot, in ascending order. -/
def State.occupiedFrom (s : State) (start : Nat) : List (Fin 24) :=
  recordSlots.filter (fun r => decide (start ≤ r.val) && (s.record r).isSome)

/-- READ RECORDS carried out (R113, R191). -/
def readRecordsRequest (b : List Byte) (s : State) : State × Answer :=
  if b.length < 2 ∨ 23 < byteAt b 1 then (s, .plain .badArg)
  else
    let found := s.occupiedFrom (byteAt b 1)
    let given := found.take 3
    (s, .doneWith ([byteOf s.occupied, byteOf given.length, byteOf (bit (3 < found.length))]
      ++ given.flatMap s.recordBytes))

/-- READ_RECORDS (R113). -/
def execReadRecords (s : State) : Host.Outcome State Fault Refusal := request .readRecords readRecordsRequest s

/-! ### READ SLOTS (R136) -/

/-- The code of a slot's timer (R191). -/
def SlotTimerKind.code : SlotTimerKind → Nat
  | .response => 1
  | .startLimit => 2
  | .serviceLimit => 3

/-- The code of a close cause (R191). -/
def CloseCause.code : CloseCause → Nat
  | .checkout => 1
  | .withdraw => 2
  | .expired => 3
  | .preempt => 4
  | .timeout => 5
  | .startLimit => 6
  | .serviceLimit => 7
  | .retire => 8

/-- The code of a service kind in READ SLOTS (R191). -/
def ServiceKind.slotCode : ServiceKind → Nat
  | .extend => 0
  | .early => 1
  | .jump => 2

/-- The six bytes of a call slot (R191). -/
def State.slotBytes (s : State) (k : Fin 4) : List Byte :=
  let x := s.slot k
  let t := s.slotTimer k
  [byteOf (x.state.code * 32 + bit x.wasServing * 16 + t.elim 0 (fun y => y.kind.code) * 4
      + x.kind.elim 0 ServiceKind.slotCode),
   byteOf (x.call.getD 0 * 16 + x.cause.elim 0 CloseCause.code),
   byteOf (x.approach.elim 0 Fin.val * 32 + x.members.length)]
    ++ pair12 (x.duration.getD 0) (t.elim 0 (fun y => y.left))

/-- The five bits of a record slot number, the highest first. -/
def fiveBits (r : Fin 24) : List Bool := [4, 3, 2, 1, 0].map (fun i => r.val.testBit i)

/-- The byte of the first eight bits of a list, the highest first; missing bits are 0. -/
def byteOfBits (bits : List Bool) : Byte := byteOf ((List.range 8).foldl (fun n i => n * 2 + bit (bits.getD i false)) 0)

/-- Bits packed into bytes from bit 7 of the first byte onward (R191). -/
def packBits (bits : List Bool) : List Byte :=
  (List.range ((bits.length + 7) / 8)).map (fun i => byteOfBits (bits.drop (8 * i)))

/-- The tenths left of an approach's lockout, 0 when stopped. -/
def State.lockoutLeft (s : State) (ap : Fin 8) : Nat := (s.lockout ap).getD 0

/-- The results of READ SLOTS (R136, R191). -/
def State.slotTableBytes (s : State) : List Byte :=
  byteOf s.nextCall :: pair12 (s.lockoutLeft 0) (s.lockoutLeft 1) ++ pair12 (s.lockoutLeft 2) (s.lockoutLeft 3)
    ++ pair12 (s.lockoutLeft 4) (s.lockoutLeft 5) ++ pair12 (s.lockoutLeft 6) (s.lockoutLeft 7)
    ++ callSlots.flatMap s.slotBytes ++ packBits (callSlots.flatMap (fun k => (s.slot k).members.flatMap fiveBits))

/-- READ SLOTS carried out. -/
def readSlotsRequest (_ : List Byte) (s : State) : State × Answer := (s, .doneWith s.slotTableBytes)

/-- READ_SLOTS (R136, R182). -/
def execReadSlots (s : State) : Host.Outcome State Fault Refusal := request .readSlots readSlotsRequest s

/-! ### READ COUNTERS (R193, R194) -/

/-- The counters of a port group, in reply order (section 10.1). -/
def portCounters : List PortCounter :=
  [.rxGood, .rxCrcErr, .rxLengthErr, .rxWhileDisabled, .txFrames, .relayDroppedFull, .relayBlocked, .hopExpired,
   .holdsSent, .holdsReceived, .holdExpiries, .flushed]

/-- The counters of a BEACON line, in reply order. -/
def beaconCounters : List BeaconCounter :=
  [.reportsGood, .parityErr, .framingErr, .checksumErr, .overruns, .suspectAccepted, .unmapped]

/-- The activity counters of an approach, in reply order. -/
def activityCounters : List ApproachCounter :=
  [.checkIns, .checkOuts, .noticesIn, .calls, .accepts, .denies, .preemptions, .overrides]

/-- The outcome counters of an approach, in reply order. -/
def outcomeCounters : List ApproachCounter :=
  [.served, .cleared, .expired, .refused, .withdrawn, .displaced, .abandoned, .retired]

/-- The counters of the LOCAL, CONTROLLER and NOTICE groups, in reply order. -/
def localCounters : List LocalCounter := [.inboundDropped, .unknownKind, .repliesDropped, .reportsDroppedFull]
def controllerCounters : List ControllerCounter := [.timeouts, .strayMessages, .badMessages, .unresponsiveEntries]
def noticeCounters : List NoticeCounter := [.noticesSent, .noticesUnsent, .noticesUnmapped, .noticesLate]

/-- The set a group and member name, in reply order, with its group; none for an unknown group or member (R193). -/
def counterSet (group member : Nat) : Option (Group × List CounterRef) :=
  match group with
  | 0 => some (.portA, portCounters.map (.port .a))
  | 1 => some (.portB, portCounters.map (.port .b))
  | 2 => some (.locals, localCounters.map .loc)
  | 3 => if member < 8 then some (.beacon, beaconCounters.map (.beacon (Fin.ofNat 8 member))) else none
  | 4 =>
    if member < 8 then some (.approach, activityCounters.map (.approach (Fin.ofNat 8 member)))
    else if member < 16 then some (.approach, outcomeCounters.map (.approach (Fin.ofNat 8 (member - 8))))
    else none
  | 5 => some (.controller, controllerCounters.map .controller)
  | 6 => some (.notice, noticeCounters.map .notice)
  | _ => none

/-- The counters of a set and the rollover flag of its group set to 0 (R194). -/
def State.clearSet (s : State) (g : Group) (refs : List CounterRef) : State :=
  { s with counters := refs.foldl (fun cs ref => cs.put ref 0) s.counters, rollover := s.rollover.put g false }

/-- READ COUNTERS carried out (R193, R194, R191). -/
def readCountersRequest (b : List Byte) (s : State) : State × Answer :=
  if b.length < 4 ∨ 1 < byteAt b 3 then (s, .plain .badArg)
  else
    match counterSet (byteAt b 1) (byteAt b 2) with
    | none => (s, .plain .badArg)
    | some (g, refs) =>
      let answer := Answer.doneWith
        ([byteOf (byteAt b 1), byteOf (byteAt b 2), byteOf (bit (s.rollover.get g))]
          ++ refs.flatMap (fun ref => bytes32 (s.counters.get ref).toNat))
      if byteAt b 3 = 1 then (s.clearSet g refs, answer) else (s, answer)

/-- READ_COUNTERS (R193, R194). -/
def execReadCounters (s : State) : Host.Outcome State Fault Refusal := request .readCounters readCountersRequest s

/-! ### READ ATTENTION (R196) -/

/-- READ ATTENTION carried out: the set is returned, and every condition returned is cleared. -/
def readAttentionRequest (_ : List Byte) (s : State) : State × Answer :=
  ({ s with conditions := 0 }, .doneWith (bytes16 s.conditions.toNat))

/-- READ_ATTENTION (R196). -/
def execReadAttention (s : State) : Host.Outcome State Fault Refusal := request .readAttention readAttentionRequest s

end Sys2Proof.Machine
end

