-- ==== Sys2Proof/Machine/Reset.lean ====
section
/-! DEFINITION. Power-on and the reset pin (R173 and the power-on values of every block). The model's own fields are kept:
the commands still waiting, and the counter of the free choice. -/

namespace Sys2Proof.Machine

/-- POWER_ON: the straps are read and every block takes its power-on values (R173). The ready input is sampled (R138). -/
def execPowerOn (straps : BitVec 6) (level : ReadyLevel) (s : State) : Host.Outcome State Fault Refusal :=
  .next (State.afterReset straps level s.pending s.freeCount)

/-- RESET_PIN: the engine resets as at power-on, reading the straps again (R173). -/
def execResetPin (straps : BitVec 6) (level : ReadyLevel) (s : State) : Host.Outcome State Fault Refusal :=
  .next (State.afterReset straps level s.pending s.freeCount)

end Sys2Proof.Machine
end

