-- ==== Sys2Proof/Machine/Dispatch.lean ====
section
/-! DEFINITION. The meaning of every command, one arm each. -/

namespace Sys2Proof.Machine

/-- A command's effect on everything but the queue. -/
def exec (i : Instr) (s : State) : Host.Outcome State Fault Refusal :=
  match i with
  | .powerOn straps level => Sys2Proof.Machine.execPowerOn straps level s
  | .resetPin straps level => Sys2Proof.Machine.execResetPin straps level s
  | .validFrame p chars => Sys2Proof.Machine.execValidFrame p chars s
  | .crcError p chars => Sys2Proof.Machine.execCrcError p chars s
  | .lengthError p chars => Sys2Proof.Machine.execLengthError p chars s
  | .corridorRxIdle p => Sys2Proof.Machine.execCorridorRxIdle p s
  | .txStart p => Sys2Proof.Machine.execTxStart p s
  | .frameTxEnd p => Sys2Proof.Machine.execFrameTxEnd p s
  | .fillTimerExpiry p => Sys2Proof.Machine.execFillTimerExpiry p s
  | .holdTimerExpiry p => Sys2Proof.Machine.execHoldTimerExpiry p s
  | .holdRepeatExpiry p => Sys2Proof.Machine.execHoldRepeatExpiry p s
  | .silenceTimerExpiry p => Sys2Proof.Machine.execSilenceTimerExpiry p s
  | .portDisable => Sys2Proof.Machine.execPortDisable s
  | .portEnable => Sys2Proof.Machine.execPortEnable s
  | .portReset => Sys2Proof.Machine.execPortReset s
  | .drainComplete p => Sys2Proof.Machine.execDrainComplete p s
  | .reportComplete l chars => Sys2Proof.Machine.execReportComplete l chars s
  | .beaconLineIdle l => Sys2Proof.Machine.execBeaconLineIdle l s
  | .lineDisable => Sys2Proof.Machine.execLineDisable s
  | .lineEnable => Sys2Proof.Machine.execLineEnable s
  | .lineDrainComplete l how => Sys2Proof.Machine.execLineDrainComplete l how s
  | .reportTake => Sys2Proof.Machine.execReportTake s
  | .etaExpiry r => Sys2Proof.Machine.execEtaExpiry r s
  | .lifetimeExpiry r => Sys2Proof.Machine.execLifetimeExpiry r s
  | .holdOffExpiry r => Sys2Proof.Machine.execHoldOffExpiry r s
  | .evaluation => Sys2Proof.Machine.execEvaluation s
  | .lockoutExpiry ap => Sys2Proof.Machine.execLockoutExpiry ap s
  | .readyLineChange level => Sys2Proof.Machine.execReadyLineChange level s
  | .phases chars => Sys2Proof.Machine.execPhases chars s
  | .accept chars => Sys2Proof.Machine.execAccept chars s
  | .start chars => Sys2Proof.Machine.execStart chars s
  | .deny chars => Sys2Proof.Machine.execDeny chars s
  | .endService chars => Sys2Proof.Machine.execEnd chars s
  | .invalidMessage chars => Sys2Proof.Machine.execInvalidMessage chars s
  | .messageCutOff => Sys2Proof.Machine.execMessageCutOff s
  | .messageTxEnd => Sys2Proof.Machine.execMessageTxEnd s
  | .phaseAgeExpiry => Sys2Proof.Machine.execPhaseAgeExpiry s
  | .responseTimeout k => Sys2Proof.Machine.execResponseTimeout k s
  | .startLimitExpiry k => Sys2Proof.Machine.execStartLimitExpiry k s
  | .serviceLimitExpiry k => Sys2Proof.Machine.execServiceLimitExpiry k s
  | .time => Sys2Proof.Machine.execTime s
  | .corridorTimeWrap => Sys2Proof.Machine.execCorridorTimeWrap s
  | .noticeReceive => Sys2Proof.Machine.execNoticeReceive s
  | .unknownKind => Sys2Proof.Machine.execUnknownKind s
  | .unknownRequest => Sys2Proof.Machine.execUnknownRequest s
  | .identify => Sys2Proof.Machine.execIdentify s
  | .readStatus => Sys2Proof.Machine.execReadStatus s
  | .readTable => Sys2Proof.Machine.execReadTable s
  | .writeEntry => Sys2Proof.Machine.execWriteEntry s
  | .verifyTable => Sys2Proof.Machine.execVerifyTable s
  | .readRecords => Sys2Proof.Machine.execReadRecords s
  | .readSlots => Sys2Proof.Machine.execReadSlots s
  | .withdraw => Sys2Proof.Machine.execWithdraw s
  | .readCounters => Sys2Proof.Machine.execReadCounters s
  | .readAttention => Sys2Proof.Machine.execReadAttention s
  | .commission => Sys2Proof.Machine.execCommission s
  | .decommission => Sys2Proof.Machine.execDecommission s
  | .frameStart p more => Sys2Proof.Machine.execFrameStart p more s
  | .reportStart l parityBit more => Sys2Proof.Machine.execReportStart l parityBit more s
  | .messageStart more => Sys2Proof.Machine.execMessageStart more s

end Sys2Proof.Machine
end

