-- ==== Sys2Proof/Machine/Idle.lean ====
section
/-! DEFINITION. What the engine does when no command waits (DESIGN CHOICE, log 4): an event of its own that is due is
queued, a free value choosing among several; with none due, one tenth passes. -/

namespace Sys2Proof.Machine

/-! ### The engine's own events that are due -/

/-- The command of a handler row. -/
def HandlerRow.command : HandlerRow → Instr
  | .time => .time
  | .notice => .noticeReceive
  | .unknownKind => .unknownKind
  | .unknownRequest => .unknownRequest
  | .identify => .identify
  | .readStatus => .readStatus
  | .readTable => .readTable
  | .writeEntry => .writeEntry
  | .verifyTable => .verifyTable
  | .readRecords => .readRecords
  | .readSlots => .readSlots
  | .withdraw => .withdraw
  | .portDisable => .portDisable
  | .portEnable => .portEnable
  | .portReset => .portReset
  | .lineDisable => .lineDisable
  | .lineEnable => .lineEnable
  | .readCounters => .readCounters
  | .readAttention => .readAttention
  | .commission => .commission
  | .decommission => .decommission

/-- A command that is due when a condition holds. -/
def dueIf (due : Bool) (c : Instr) : List Instr := if due then [c] else []

/-- What the transmit side of an ENABLED port with a free line does next (R28, R30). -/
def State.dueStart (s : State) (p : Port) : List Instr :=
  let x := s.port p
  if x.mode = .enabled ∧ x.sending = none then
    match x.choice with
    | .control _ => [.txStart p]
    | .queued _ => [.txStart p]
    | .fill => [.fillTimerExpiry p]
    | .nothing => []
  else []

/-- The due events of a port (R28 to R33, R36, R38). -/
def State.duePort (s : State) (p : Port) : List Instr :=
  let x := s.port p
  dueIf (x.holdTimer = some 0) (.holdTimerExpiry p) ++ dueIf (x.holdRepeat = some 0) (.holdRepeatExpiry p)
    ++ dueIf (x.mode = .enabled ∧ x.silenceTimer = some 0) (.silenceTimerExpiry p)
    ++ dueIf x.sending.isSome (.frameTxEnd p)
    ++ dueIf (x.mode = .draining ∧ x.rxMarked = false ∧ x.txMarked = false) (.drainComplete p) ++ s.dueStart p

/-- The due events of a record (R105, R106). -/
def State.dueRecord (s : State) (r : Fin 24) : List Instr :=
  match s.record r with
  | none => []
  | some x => dueIf (x.lifetime = 0) (.lifetimeExpiry r) ++ dueIf (x.holdOff = some 0) (.holdOffExpiry r)

/-- The command of a slot timer that has run out. -/
def SlotTimerKind.command (k : Fin 4) : SlotTimerKind → Instr
  | .response => .responseTimeout k
  | .startLimit => .startLimitExpiry k
  | .serviceLimit => .serviceLimitExpiry k

/-- The due event of a slot's timer (R154, R157, R158). -/
def State.dueSlot (s : State) (k : Fin 4) : List Instr :=
  match s.slotTimer k with
  | none => []
  | some t => dueIf (t.left = 0) (t.kind.command k)

/-- The take of the frame at the head of the local inbound queue (R175). -/
def State.dueHandler (s : State) : List Instr :=
  match s.inbound with
  | [] => []
  | x :: _ => [(rowOf x.frame).command]

/-- Every event of the engine's own that is due. -/
def State.due (s : State) : List Instr :=
  bothPorts.flatMap s.duePort ++ dueIf (lineNumbers.any (fun l => (s.line l).buffer.isSome)) .reportTake
    ++ s.dueHandler ++ dueIf (s.mode = .active ∧ s.evalDue) .evaluation ++ dueIf (!s.output.isEmpty) .messageTxEnd
    ++ recordSlots.flatMap s.dueRecord
    ++ approachNumbers.flatMap (fun ap => dueIf (s.lockout ap = some 0) (.lockoutExpiry ap))
    ++ callSlots.flatMap s.dueSlot
    ++ dueIf (s.controller.phaseKnown ∧ Config.phaseAgeLimit ≤ s.controller.phaseAge) .phaseAgeExpiry

/-! ### One tenth -/

/-- A function applied to each element of a vector. -/
def mapVector {α β : Type} {n : Nat} (f : α → β) (v : Vector α n) : Vector β n :=
  ⟨⟨v.toList.map f⟩, by simp⟩

/-- A running timer one tenth later; it stops at 0. -/
def countDown (t : Option Nat) : Option Nat := t.map (fun n => n - 1)

/-- A port one tenth later. -/
def PortState.tick (x : PortState) : PortState :=
  { x with
    holdTimer := countDown x.holdTimer
    holdRepeat := countDown x.holdRepeat
    silenceTimer := countDown x.silenceTimer
    fillTimer := countDown x.fillTimer }

/-- A record one tenth later; its hold-off counts down while it is WAITING (R104, R105, R106). -/
def Record.tick (x : Record) : Record :=
  { x with
    eta := x.eta - 1
    lifetime := x.lifetime - 1
    holdOff := if x.state = .waiting then countDown x.holdOff else x.holdOff }

/-- The controller status one tenth later: the phase age counts while the status is KNOWN (R142). -/
def Controller.tick (c : Controller) : Controller :=
  if c.phaseKnown then { c with phaseAge := min Config.phaseAgeLimit (c.phaseAge + 1) } else c

/-- Everything that counts tenths, one tenth later, the corridor time apart. -/
def State.countTenth (s : State) : State :=
  { s with
    portA := s.portA.tick
    portB := s.portB.tick
    records := mapVector (fun x => x.map Record.tick) s.records
    lockouts := mapVector countDown s.lockouts
    slotTimers := mapVector (fun t => t.map (fun y => { y with left := y.left - 1 })) s.slotTimers
    controller := s.controller.tick }

/-- One tenth passes: the corridor time counts up, or its wrap is queued (R176). -/
def State.tick (s : State) : State :=
  if Config.lastTenth ≤ s.corridorTime then { s.countTenth with pending := [.corridorTimeWrap] }
  else { s.countTenth with corridorTime := s.corridorTime + 1 }

/-- The event the free value picks of those due (log 4, log 7). -/
def pick (choice : Nat) (events : List Instr) : Option Instr := events[choice % events.length]?

/-- What the engine does on an empty queue. -/
def State.idle (s : State) : State :=
  match pick (Config.freeChoice s.freeCount) s.due with
  | none => s.tick
  | some c => { s with pending := [c], freeCount := s.freeCount + 1 }

end Sys2Proof.Machine
end

