-- ==== Sys2Proof/Machine/Step.lean ====
section
/-! DEFINITION. One step: the command at the front of the queue, or the idle block. -/

namespace Sys2Proof.Machine

/-- The command at the front of the queue is taken and carried out on the state with the queue's rest; on an empty queue
the block idles (log 1, log 4). -/
def step (s : State) : Host.Outcome State Fault Refusal :=
  match s.pending with
  | [] => .next s.idle
  | c :: rest => exec c { s with pending := rest }

/-- The state with the command a word spells put at the front of its queue; the table gives no row bits, so no word spells
one. -/
def State.withFetchWord (s : State) (nbits w : Nat) : State :=
  match decodeTableWord nbits w with
  | none => s
  | some c => { s with pending := c :: s.pending }

end Sys2Proof.Machine
end

