-- ==== Sys2Proof/Safety.lean ====
section
/-! DEFINITION. What holds in every state the part can be in, as the spec's laws say it, and the few words the statements
of Certificates/ share. -/

namespace Sys2Proof.Safety

open Sys2Proof.Machine

/-! ### Words the statements share -/

/-- Characters with good stop bits. -/
def goodChars (bytes : List Byte) : List SerialChar := bytes.map (fun b => { data := b, stopGood := true })

/-- A REQUEST with a request code at the head of the local inbound queue (R175, R177). -/
def RequestAtHead (s : State) (x : InboundFrame) (rest : List InboundFrame) (code : Nat) : Prop :=
  s.inbound = x :: rest ∧ x.frame.kind = kindRequest ∧ byteAt x.frame.body 0 = code

/-- The state with the head of the local inbound queue taken. -/
def afterTake (s : State) (rest : List InboundFrame) : State := { s with inbound := rest }

/-- The state in which a REQUEST's event ends: its effect, then its REPLY, then the end of the event (R177, R178). -/
def answered (u : State) (x : InboundFrame) (a : Answer) : State := (u.reply x a).endEvent

/-- One test of written or stored contents: whether it fails, and the check code and index it then reports (R63). -/
abbrev Test := Bool × Nat × Nat

/-- The first of the tests that fails reports a check code and an index. -/
abbrev FirstFails (tests : List Test) (code index : Nat) : Prop :=
  tests.find? (fun y => y.1) = some (true, code, index)

/-- No test fails. -/
abbrev AllPass (tests : List Test) : Prop := ∀ y ∈ tests, y.1 = false

/-- The test of a field's range: code FIELD_RANGE with the field's number (R66, R70, R76). -/
def rangeTest (field lo hi n : Nat) : Test := (decide (n < lo ∨ hi < n), 0x01, field)

/-- The test of a line: 0 to 7, or Fh for none (R66, R190). -/
def lineTest (field n : Nat) : Test := (decide (7 < n ∧ n ≠ 15), 0x01, field)

/-- The tests of R66 and R67 on the contents of an APPROACH write, in order; the range of field 14 before its presence
(DEDUCED, log 16). -/
def approachTests (s : State) (ap : Fin 8) (x : RawApproach) : List Test :=
  let other := fun (o : Fin 8) => x.inUse = 1 ∧ o ≠ ap ∧ (s.approach o).inUse = true
  [rangeTest 2 1 16 x.phaseGroup, lineTest 3 x.checkIn, lineTest 4 x.checkOut, rangeTest 6 10 1200 x.travel,
   rangeTest 7 0 600 x.dwell, rangeTest 8 10 300 x.extension, rangeTest 9 10 300 x.earlyDuration,
   rangeTest 10 30 150 x.jumpDuration, rangeTest 11 0 1200 x.lockout, rangeTest 12 0 7 x.rank,
   rangeTest 13 0 2 x.downDirection, rangeTest 14 0 62 x.downAddress,
   (decide (¬ (x.downDirection = 0 ↔ x.downAddress = 0)), 0x02, 14), rangeTest 15 50 3000 x.downTravel]
  ++ (List.finRange 8).map (fun o =>
      (decide (other o ∧ (s.approach o).checkIn.map Fin.val = some x.checkIn), 0x04, o.val))
  ++ (List.finRange 8).map (fun o =>
      (decide (other o ∧ (s.approach o).checkOut.map Fin.val = some x.checkOut), 0x04, o.val))
  ++ [(decide (x.inUse = 1 ∧ x.downAddress ≠ 0 ∧ x.downAddress = s.address.toNat), 0x05, 14)]

/-- The tests of R70 on the contents of a ROUTE write: the route number, no hole in the thresholds, and thresholds strictly
rising (the last two in this order: DEDUCED, log 21). -/
def routeTests (x : RawRoute) : List Test :=
  let p := fun (j : Nat) => x.places.getD j 0
  [rangeTest 2 1 9999 x.route,
   (decide ((p 0 = 0 ∧ (p 1 ≠ 0 ∨ p 2 ≠ 0)) ∨ (p 1 = 0 ∧ p 2 ≠ 0)), 0x02, 5),
   (decide ((p 1 ≠ 0 ∧ p 1 ≤ p 0) ∨ (p 2 ≠ 0 ∧ p 2 ≤ p 1)), 0x03, 5)]

/-- The tests of R76 on the contents of a PARAMS write, in field order (within field 21: DEDUCED, log 17). -/
def paramsTests (s : State) (x : RawParams) : List Test :=
  [rangeTest 1 1 4 x.window, rangeTest 2 2 50 x.responseTimeout, rangeTest 3 10 600 x.startLimit,
   rangeTest 4 0 7 x.margin, rangeTest 5 0 600 x.denyHoldOff, rangeTest 6 0 600 x.checkInGrace,
   rangeTest 7 0 600 x.noticeGrace, (decide (7 < x.unlisted ∧ x.unlisted ≠ 255), 0x01, 8), rangeTest 9 0 7 x.floor,
   rangeTest 10 40 152 x.split, rangeTest 11 0 1 x.onA, rangeTest 12 8 152 x.onThresholdA,
   rangeTest 13 0 151 x.offThresholdA, (decide (x.onThresholdA ≤ x.offThresholdA), 0x07, 0), rangeTest 14 0 1 x.onB,
   rangeTest 15 8 152 x.onThresholdB, rangeTest 16 0 151 x.offThresholdB,
   (decide (x.onThresholdB ≤ x.offThresholdB), 0x07, 1), rangeTest 17 10 255 x.holdLimit,
   rangeTest 18 10 100 x.silenceLimit, rangeTest 20 1 3 x.alertPort, (decide (4 < x.mapCount), 0x02, 21)]
  ++ x.noticeMap.map (fun q => (decide (q.1 < 1 ∨ 62 < q.1 ∨ 7 < q.2), 0x01, 21))
  ++ x.noticeMap.map (fun q => (decide (q.1 = s.address.toNat), 0x05, 21))
  ++ x.noticeMap.zipIdx.map (fun q => ((x.noticeMap.take q.2).any (fun o => decide (o.1 = q.1.1)), 0x09, q.2))
  ++ x.lines.zipIdx.map (fun q => (decide (2 < q.1.1), 0x01, 22 + q.2))

/-- An approach entry with a field outside its range or form, or naming this junction downstream (R66, R67). -/
abbrev unfit (s : State) (e : ApproachEntry) : Prop :=
  let outside := fun (lo hi n : Nat) => n < lo ∨ hi < n
  let address := e.downAddress.getD 0
  outside 1 16 e.phaseGroup ∨ outside 10 1200 e.travel ∨ outside 0 600 e.dwell ∨ outside 10 300 e.extension ∨
    outside 10 300 e.earlyDuration ∨ outside 30 150 e.jumpDuration ∨ outside 0 1200 e.lockout ∨ outside 0 7 e.rank ∨
    outside 0 62 address ∨ ¬ (e.downDirection = none ↔ address = 0) ∨ outside 50 3000 e.downTravel ∨
    (address ≠ 0 ∧ address = s.address.toNat)

/-- The whole-table tests of R185, in order: an in-use approach; each in-use entry; lines shared by two in-use approaches;
the approaches named by the notice map; those named by CONFLICTS. -/
def commissionTests (s : State) : List Test :=
  let used := fun (ap : Fin 8) => (s.approach ap).inUse = true
  let share := fun (a b : Option (Fin 8)) => a ≠ none ∧ a = b
  [(decide (∀ ap : Fin 8, ¬ used ap), 0x0A, 0)]
  ++ (List.finRange 8).map (fun ap => (decide (used ap ∧ unfit s (s.approach ap)), 0x0B, ap.val))
  ++ (List.finRange 8).flatMap (fun a => (List.finRange 8).map (fun b =>
      (decide (a < b ∧ used a ∧ used b ∧ (share (s.approach a).checkIn (s.approach b).checkIn ∨
        share (s.approach a).checkOut (s.approach b).checkOut)), 0x0C, b.val)))
  ++ s.params.noticeMap.zipIdx.map (fun q => (decide (¬ used q.1.2), 0x0D, q.2))
  ++ s.conflicts.flatMap (fun q => [(decide (¬ used q.1), 0x0E, q.1.val), (decide (¬ used q.2), 0x0E, q.2.val)])

/-- The answer INCONSISTENT with a check code and an index (R63, R191). -/
def refusedBy (code index : Nat) : Answer := { status := .inconsistent, results := [byteOf code, byteOf index] }

/-! ### The frame store and ALERTs -/

/-- No queue exceeds its partition, and the split is in its range (R25, R76). -/
def QueuesFit (s : State) : Prop :=
  40 ≤ s.params.split ∧ s.params.split ≤ 152 ∧ usedUnits s.portA.queue ≤ s.partition .a
    ∧ usedUnits s.portB.queue ≤ s.partition .b

/-- The number of ALERTs of this engine in a queue. -/
def ownAlerts (q : List QueuedFrame) : Nat := (q.filter (fun f => f.ownAlert)).length

/-- The alert count is the number of this engine's ALERTs in the two queues, at most 2, and between events none is owed
(R197, R198, R199). -/
def AlertsCounted (s : State) : Prop :=
  s.alertCount = ownAlerts s.portA.queue + ownAlerts s.portB.queue ∧ s.alertCount ≤ Config.maxAlerts
    ∧ s.alertDue = false

/-! ### Ports -/

/-- A frame on the line that came from the queue is the queue's head (R28, R29). -/
def lineHoldsHead (x : PortState) : Prop :=
  ∀ y ∈ x.sending, y.origin = .queue → x.queue.head?.map (fun f => f.frame) = some y.frame

/-- The marks of R37 stand only in DRAINING, and a DISABLED port sends nothing (R37, R38). -/
def marksFit (x : PortState) : Prop :=
  match x.mode with
  | .enabled => x.rxMarked = false ∧ x.txMarked = false
  | .draining => x.txMarked = x.sending.isSome ∧ (x.rxMarked = true → x.receiver.inProgress = true)
  | .disabled => x.rxMarked = false ∧ x.txMarked = false ∧ x.sending = none

/-- The port's timers run as its state and flags say (R20, R30, R31, R33, R35, R36, R37). -/
def timersFit (x : PortState) : Prop :=
  x.holdTimer.isSome = x.held ∧ x.holdRepeat.isSome = x.holding
    ∧ x.fillTimer.isSome = decide (x.mode = .enabled)
    ∧ (x.mode ≠ .enabled → x.silenceTimer = none)
    ∧ (x.mode = .enabled → x.silenceTimer = none → x.silent = true)

/-- What holds of a port. -/
def PortLaw (x : PortState) : Prop := lineHoldsHead x ∧ marksFit x ∧ timersFit x

/-- What holds of both ports. -/
def PortsLawful (s : State) : Prop := PortLaw s.portA ∧ PortLaw s.portB

/-! ### Beacon lines -/

/-- What holds of a beacon line (R42, R45, R49, R50, R52, R53). -/
def LineLaw (x : LineState) : Prop :=
  match x.mode with
  | .enabled => x.streak < Config.quarantineStreak
  | .draining => x.streak < Config.quarantineStreak ∧ ∃ chars p f, x.assembler = .collect chars p f
  | .disabled => x.assembler = .settle ∧ x.buffer = none ∧ x.streak = 0
  | .quarantined => x.assembler = .settle ∧ x.buffer = none ∧ x.streak = Config.quarantineStreak

/-- What holds of every line; a report in a holding buffer is its own line's. -/
def LinesLawful (s : State) : Prop :=
  ∀ l : Fin 8, LineLaw (s.line l) ∧ ∀ rep ∈ (s.line l).buffer, rep.line = l

/-! ### The request table -/

/-- No two records carry the same vehicle number; a FORECAST record carries an upstream junction; a retry count is at
most 2 (R83, R84, R107). -/
def RecordsLawful (s : State) : Prop :=
  (∀ r q : Fin 24, ∀ x ∈ s.record r, ∀ y ∈ s.record q, x.vehicle = y.vehicle → r = q)
    ∧ ∀ r : Fin 24, ∀ x ∈ s.record r, (x.basis = .forecast → x.upstream.isSome = true) ∧ x.retry ≤ 2

/-! ### Calls -/

/-- Outside ACTIVE the request table is empty, every call slot IDLE with its timer stopped, every lockout stopped and the
evaluation-due mark clear (R86, R116, R134, R186). -/
def QuietOutsideActive (s : State) : Prop :=
  s.mode ≠ .active →
    (∀ r : Fin 24, s.record r = none) ∧ (∀ k : Fin 4, s.slot k = .idle ∧ s.slotTimer k = none)
      ∧ (∀ ap : Fin 8, s.lockout ap = none) ∧ s.evalDue = false

/-- Two non-IDLE slots hold different call numbers, different approaches, and approaches that do not conflict; call numbers
and the pointer lie in 1 to 15; outside ACTIVE every slot is IDLE (R122, R123, R75). -/
def CallsApart (s : State) : Prop :=
  (s.mode ≠ .active → ∀ k : Fin 4, (s.slot k).state = .idle)
    ∧ (∀ k j : Fin 4, k ≠ j → (s.slot k).state ≠ .idle → (s.slot j).state ≠ .idle →
        (s.slot k).call ≠ (s.slot j).call
          ∧ ∀ x ∈ (s.slot k).approach, ∀ y ∈ (s.slot j).approach, x ≠ y ∧ s.conflict x y = false)
    ∧ (∀ k : Fin 4, (s.slot k).state ≠ .idle → ∀ n ∈ (s.slot k).call, 1 ≤ n ∧ n ≤ 15)
    ∧ (∀ k : Fin 4, (s.slot k).state ≠ .idle → (s.slot k).call.isSome = true ∧ (s.slot k).approach.isSome = true)
    ∧ 1 ≤ s.nextCall ∧ s.nextCall ≤ 15

/-- The timer a slot runs in each state (R132, R146, R147, R153). -/
def timerOfState : SlotState → Option SlotTimerKind
  | .idle => none
  | .called => some .response
  | .granted => some .startLimit
  | .serving => some .serviceLimit
  | .closing => some .response

/-- What holds of a slot by its state: an open slot has members and no close cause, a CLOSING one a close cause and no
members, an IDLE one holds nothing (R114). -/
def slotFieldsFit (x : CallSlot) : Prop :=
  match x.state with
  | .idle => x = .idle
  | .closing => x.kind.isSome = true ∧ x.duration.isSome = true ∧ x.cause.isSome = true ∧ x.members = []
  | .called => x.kind.isSome = true ∧ x.duration.isSome = true ∧ x.cause = none ∧ x.members ≠ [] ∧ x.wasServing = false
  | .granted => x.kind.isSome = true ∧ x.duration.isSome = true ∧ x.cause = none ∧ x.members ≠ [] ∧ x.wasServing = false
  | .serving => x.kind.isSome = true ∧ x.duration.isSome = true ∧ x.cause = none ∧ x.members ≠ [] ∧ x.wasServing = false

/-- Records and slots agree: each member of a slot is a record on the slot's approach, in the slot's state and naming the
slot, each once; a record that names a slot is its member; a record names none exactly when it is WAITING (R85, R114). -/
def MembersAgree (s : State) : Prop :=
  (∀ k : Fin 4, slotFieldsFit (s.slot k) ∧ (s.slotTimer k).map (fun t => t.kind) = timerOfState (s.slot k).state
      ∧ (s.slot k).members.Nodup)
    ∧ (∀ k : Fin 4, ∀ r ∈ (s.slot k).members, ∃ x, s.record r = some x ∧ x.callSlot = some k
        ∧ (s.slot k).approach = some x.approach ∧ x.state = (s.slot k).state.memberState)
    ∧ (∀ r : Fin 24, ∀ x ∈ s.record r, (x.callSlot = none ↔ x.state = .waiting)
        ∧ ∀ k ∈ x.callSlot, r ∈ (s.slot k).members)

/-- Calls and their members, whole. -/
def CallsLawful (s : State) : Prop := CallsApart s ∧ MembersAgree s

end Sys2Proof.Safety
end

