-- ==== Sys2Proof/Certificates/Slice0/Obligations.lean ====
section
/-! DEFINITION. The statements for the provers. A statement about a command says which next state `exec` answers; since it
gives that state whole, it says the frame too: what it does not write stays. Counting, raising, the REPLY, flow control and
the ALERT at an event's end are shared, and statements of their own say what each changes and what it leaves. -/

open Sys2Proof Sys2Proof.Machine Sys2Proof.Safety

/-! ### The machine -/

/-- A step takes the command at the front of the queue and carries it out on the state with the queue's rest. -/
def Obligations.StepRunsFrontCommand : Prop :=
  ∀ (c : Instr) (s : State) (rest : List Instr), s.pending = c :: rest → step s = exec c { s with pending := rest }

/-- On an empty queue, an event of the engine's own that is due is queued, and with none due one tenth passes (the model's
choice, log 4): the corridor time rises by one, or its wrap is queued; every running timer falls by one and stays running;
the phase age rises by one while KNOWN; nothing else changes. The due events are those named here, and the take of the frame
at the head of the local inbound queue is the row of its kind and request (an unlisted control action: DEDUCED, log 9; a
FILL, HOLD or RESUME at the head, to which the spec gives no row, is UNKNOWN_KIND: DEDUCED, log 22). -/
def Obligations.EmptyQueueStepOrTenth : Prop :=
  (∀ s : State,
    (s.pending = [] → s.due = [] → step s = .next s.tick) ∧
    (s.pending = [] → s.due ≠ [] →
      ∃ c ∈ s.due, step s = .next { s with pending := [c], freeCount := s.freeCount + 1 }) ∧
    (s.corridorTime < 863999 → s.tick = { s.countTenth with corridorTime := s.corridorTime + 1 }) ∧
    (863999 ≤ s.corridorTime → s.tick = { s.countTenth with pending := [.corridorTimeWrap] }) ∧
    (∀ r : Fin 24, s.countTenth.record r = (s.record r).map (fun x =>
      { x with
        eta := x.eta - 1
        lifetime := x.lifetime - 1
        holdOff := if x.state = .waiting then x.holdOff.map (fun n => n - 1) else x.holdOff })) ∧
    (∀ ap : Fin 8, s.countTenth.lockout ap = (s.lockout ap).map (fun n => n - 1)) ∧
    (∀ k : Fin 4, s.countTenth.slotTimer k = (s.slotTimer k).map (fun t => { t with left := t.left - 1 })) ∧
    (∀ p : Port, s.countTenth.port p =
      { s.port p with
        holdTimer := (s.port p).holdTimer.map (fun n => n - 1)
        holdRepeat := (s.port p).holdRepeat.map (fun n => n - 1)
        silenceTimer := (s.port p).silenceTimer.map (fun n => n - 1)
        fillTimer := (s.port p).fillTimer.map (fun n => n - 1) }) ∧
    s.countTenth =
      { s with
        portA := s.countTenth.portA
        portB := s.countTenth.portB
        records := s.countTenth.records
        lockouts := s.countTenth.lockouts
        slotTimers := s.countTenth.slotTimers
        controller := if s.controller.phaseKnown then
            { s.controller with phaseAge := min 30 (s.controller.phaseAge + 1) } else s.controller }) ∧
  (∀ (s : State) (c : Instr), c ∈ s.due ↔
    match c with
    | .holdTimerExpiry p => (s.port p).holdTimer = some 0
    | .holdRepeatExpiry p => (s.port p).holdRepeat = some 0
    | .silenceTimerExpiry p => (s.port p).mode = .enabled ∧ (s.port p).silenceTimer = some 0
    | .frameTxEnd p => (s.port p).sending ≠ none
    | .drainComplete p => (s.port p).mode = .draining ∧ (s.port p).rxMarked = false ∧ (s.port p).txMarked = false
    | .txStart p => (s.port p).mode = .enabled ∧ (s.port p).sending = none ∧
        ((s.port p).pendingControl ≠ none ∨ ((s.port p).queue ≠ [] ∧ (s.port p).held = false))
    | .fillTimerExpiry p => (s.port p).mode = .enabled ∧ (s.port p).sending = none ∧ (s.port p).pendingControl = none ∧
        ((s.port p).queue = [] ∨ (s.port p).held = true) ∧ (s.port p).fillTimer = some 0
    | .reportTake => ∃ l : Fin 8, (s.line l).buffer ≠ none
    | .evaluation => s.mode = .active ∧ s.evalDue = true
    | .messageTxEnd => s.output ≠ []
    | .lifetimeExpiry r => ∃ x ∈ s.record r, x.lifetime = 0
    | .holdOffExpiry r => ∃ x ∈ s.record r, x.holdOff = some 0
    | .lockoutExpiry ap => s.lockout ap = some 0
    | .responseTimeout k => s.slotTimer k = some { kind := .response, left := 0 }
    | .startLimitExpiry k => s.slotTimer k = some { kind := .startLimit, left := 0 }
    | .serviceLimitExpiry k => s.slotTimer k = some { kind := .serviceLimit, left := 0 }
    | .phaseAgeExpiry => s.controller.phaseKnown = true ∧ 30 ≤ s.controller.phaseAge
    | _ => ∃ x rest, s.inbound = x :: rest ∧ (rowOf x.frame).command = c) ∧
  ∀ f : LinkFrame,
    let c := (rowOf f).command
    (f.kind = 0x03 → c = .time) ∧ (f.kind = 0x04 → c = .noticeReceive) ∧
    (f.kind.toNat < 3 ∨ 5 < f.kind.toNat → c = .unknownKind) ∧
    (f.kind = 0x05 → c = match byteAt f.body 0 with
      | 1 => .identify
      | 2 => .readStatus
      | 3 => .readTable
      | 4 => .writeEntry
      | 5 => .verifyTable
      | 6 => .readRecords
      | 7 => .readSlots
      | 8 => .withdraw
      | 9 => if byteAt f.body 2 = 1 then .portEnable else if byteAt f.body 2 = 2 then .portReset else .portDisable
      | 10 => if byteAt f.body 2 = 1 then .lineEnable else .lineDisable
      | 11 => .readCounters
      | 12 => .readAttention
      | 13 => .commission
      | 14 => .decommission
      | _ => .unknownRequest)

/-- Every command answers a next state in every state: no fault and no refusal. -/
def Obligations.EveryCommandAnswersNext : Prop :=
  ∀ (c : Instr) (s : State), ∃ t : State, exec c s = .next t

/-- A command that names an event the state does not allow changes nothing (the model's choice, log 2): characters that end
another kind of item or none, a start outside HUNT or SEEK or with characters that end the item, an expiry of a timer that
is stopped or of another kind, a slot timer in a state it has no rule for, a transmission or drain that does not stand to
end, a take from empty buffers, an evaluation that is not due, and a handler row that is not the row of the frame at the
head. -/
def Obligations.DisallowedEventsChangeNothing : Prop :=
  ∀ s : State,
    (∀ p chars, (∀ r f, s.frameFrom p chars ≠ some (r, .valid f)) → exec (.validFrame p chars) s = .next s) ∧
    (∀ p chars, (∀ r, s.frameFrom p chars ≠ some (r, .crcError)) → exec (.crcError p chars) s = .next s) ∧
    (∀ p chars, (∀ r, s.frameFrom p chars ≠ some (r, .lengthError)) → exec (.lengthError p chars) s = .next s) ∧
    (∀ p more, ((s.port p).receiver ≠ .hunt ∨ ∀ r, runChars Receiver.char (.header [] false) more ≠ .going r) →
      exec (.frameStart p more) s = .next s) ∧
    (∀ p, (s.port p).sending = none → exec (.frameTxEnd p) s = .next s) ∧
    (∀ p, (s.port p).mode ≠ .enabled → exec (.txStart p) s = .next s ∧ exec (.fillTimerExpiry p) s = .next s ∧
      exec (.silenceTimerExpiry p) s = .next s) ∧
    (∀ p, (s.port p).sending ≠ none → exec (.txStart p) s = .next s) ∧
    (∀ p, (s.port p).fillTimer = none → exec (.fillTimerExpiry p) s = .next s) ∧
    (∀ p, (s.port p).silenceTimer = none → exec (.silenceTimerExpiry p) s = .next s) ∧
    (∀ p, (s.port p).holdTimer = none → exec (.holdTimerExpiry p) s = .next s) ∧
    (∀ p, (s.port p).holdRepeat = none → exec (.holdRepeatExpiry p) s = .next s) ∧
    (∀ p, (s.port p).mode ≠ .draining ∨ (s.port p).rxMarked = true ∨ (s.port p).txMarked = true →
      exec (.drainComplete p) s = .next s) ∧
    (∀ l : Fin 8,
      let x := s.line l
      let char := Assembler.char (s.params.lines[l]).parity
      let deaf := x.mode = .disabled ∨ x.mode = .quarantined
      (∀ chars, deaf ∨ runChars char x.assembler chars = .overran → exec (.reportComplete l chars) s = .next s) ∧
      (∀ bit more, (deaf ∨ x.assembler ≠ .seek ∨
          ∀ b, runChars char .seek ({ data := 0xC3, parityBit := bit, stopGood := true } :: more) ≠ .going b) →
        exec (.reportStart l bit more) s = .next s) ∧
      (deaf → exec (.beaconLineIdle l) s = .next s) ∧
      (∀ how, x.mode ≠ .draining ∨ x.assembler = .settle ∨ x.assembler = .seek →
        exec (.lineDrainComplete l how) s = .next s) ∧
      ∀ chars, (∀ b raw, runChars char x.assembler chars ≠ .ended b raw) →
        exec (.lineDrainComplete l (.ninth chars)) s = .next s) ∧
    ((∀ l : Fin 8, (s.line l).buffer = none) → exec .reportTake s = .next s) ∧
    (∀ r, s.record r = none → exec (.etaExpiry r) s = .next s ∧ exec (.lifetimeExpiry r) s = .next s ∧
      exec (.holdOffExpiry r) s = .next s) ∧
    (∀ r, (∀ x ∈ s.record r, x.holdOff = none) → exec (.holdOffExpiry r) s = .next s) ∧
    (s.mode ≠ .active ∨ s.evalDue = false → exec .evaluation s = .next s) ∧
    (∀ ap, s.lockout ap = none → exec (.lockoutExpiry ap) s = .next s) ∧
    (∀ k : Fin 4,
      let st := (s.slot k).state
      let other := fun (kind : SlotTimerKind) => ∀ left, s.slotTimer k ≠ some { kind := kind, left := left }
      (other .response ∨ (st ≠ .called ∧ st ≠ .closing) → exec (.responseTimeout k) s = .next s) ∧
      (other .startLimit ∨ st ≠ .granted → exec (.startLimitExpiry k) s = .next s) ∧
      (other .serviceLimit ∨ st ≠ .serving → exec (.serviceLimitExpiry k) s = .next s)) ∧
    (∀ chars,
      let m := s.messageFrom chars
      ((∀ g, m ≠ some (.phases g)) → exec (.phases chars) s = .next s) ∧
      ((∀ n, m ≠ some (.accept n)) → exec (.accept chars) s = .next s) ∧
      ((∀ n, m ≠ some (.start n)) → exec (.start chars) s = .next s) ∧
      ((∀ n reason, m ≠ some (.deny n reason)) → exec (.deny chars) s = .next s) ∧
      ((∀ n reason, m ≠ some (.endService n reason)) → exec (.endService chars) s = .next s) ∧
      (m ≠ some .invalid → exec (.invalidMessage chars) s = .next s)) ∧
    (∀ more, (s.msgReceiver ≠ .hunt ∨ ∀ r, runChars MsgReceiver.char (.collect [0xA5] false) more ≠ .going r) →
      exec (.messageStart more) s = .next s) ∧
    (s.msgReceiver = .hunt → exec .messageCutOff s = .next s) ∧
    (s.output = [] → exec .messageTxEnd s = .next s) ∧
    (s.controller.phaseKnown = false → exec .phaseAgeExpiry s = .next s) ∧
    (exec (.readyLineChange s.controller.ready) s = .next s) ∧
    (s.inbound = [] → ∀ c ∈ [Instr.time, .noticeReceive, .unknownKind, .unknownRequest, .identify, .readStatus,
      .readTable, .writeEntry, .verifyTable, .readRecords, .readSlots, .withdraw, .portDisable, .portEnable, .portReset,
      .lineDisable, .lineEnable, .readCounters, .readAttention, .commission, .decommission], exec c s = .next s) ∧
    ∀ x rest, s.inbound = x :: rest →
      let kind := x.frame.kind.toNat
      let code := byteAt x.frame.body 0
      let action := byteAt x.frame.body 2
      (kind ≠ 3 → exec .time s = .next s) ∧ (kind ≠ 4 → exec .noticeReceive s = .next s) ∧
      (3 ≤ kind ∧ kind ≤ 5 → exec .unknownKind s = .next s) ∧
      (kind ≠ 5 ∨ (1 ≤ code ∧ code ≤ 14) → exec .unknownRequest s = .next s) ∧
      (∀ q ∈ [(Instr.identify, 1), (.readStatus, 2), (.readTable, 3), (.writeEntry, 4), (.verifyTable, 5),
          (.readRecords, 6), (.readSlots, 7), (.withdraw, 8), (.readCounters, 11), (.readAttention, 12),
          (.commission, 13), (.decommission, 14)],
        kind ≠ 5 ∨ code ≠ q.2 → exec q.1 s = .next s) ∧
      (kind ≠ 5 ∨ code ≠ 9 ∨ action = 1 ∨ action = 2 → exec .portDisable s = .next s) ∧
      (kind ≠ 5 ∨ code ≠ 9 ∨ action ≠ 1 → exec .portEnable s = .next s) ∧
      (kind ≠ 5 ∨ code ≠ 9 ∨ action ≠ 2 → exec .portReset s = .next s) ∧
      (kind ≠ 5 ∨ code ≠ 10 ∨ action = 1 → exec .lineDisable s = .next s) ∧
      (kind ≠ 5 ∨ code ≠ 10 ∨ action ≠ 1 → exec .lineEnable s = .next s)

/-- POWER_ON and RESET_PIN: the straps give the address and the mode, and every block takes its power-on values, every
field of every table entry included. -/
def Obligations.ResetTakesPowerOnValues : Prop :=
  ∀ (straps : BitVec 6) (level : ReadyLevel) (s : State), ∃ t : State,
    exec (.powerOn straps level) s = .next t ∧ exec (.resetPin straps level) s = .next t ∧
    t.rawStraps = straps ∧ t.address = straps ∧
    (1 ≤ straps.toNat → straps.toNat ≤ 62 → t.mode = .standby) ∧
    (straps.toNat = 0 ∨ straps.toNat = 63 → t.mode = .unaddressed) ∧
    t.corridorTime = 0 ∧ t.timeSet = false ∧ t.inbound = [] ∧
    (∀ p : Port, t.port p =
      { mode := .enabled, queue := [], pendingControl := none, held := false, holding := false, silent := false,
        holdTimer := none, holdRepeat := none, silenceTimer := some 20, fillTimer := some 5, sending := none,
        rxMarked := false, txMarked := false, receiver := .quiet }) ∧
    t.partition .a = 96 ∧ t.partition .b = 96 ∧
    (∀ l : Fin 8, t.line l = { mode := .enabled, assembler := .settle, buffer := none, streak := 0 }) ∧
    t.reportPointer = 7 ∧
    (∀ ap : Fin 8, t.approach ap =
      { inUse := false, phaseGroup := 1, checkIn := none, checkOut := none,
        kinds := { extend := false, early := false, jump := false }, travel := 10, dwell := 0, extension := 10,
        earlyDuration := 10, jumpDuration := 30, lockout := 0, rank := 0, downDirection := none, downAddress := none,
        downTravel := 50 }) ∧
    (∀ i : Fin 64, t.routes[i] =
      { inUse := false, route := 1, direction := false, baseLevel := 0, late := [], cutOff := none, excluded := false }) ∧
    t.conflicts = [] ∧
    t.params =
      { window := 2, responseTimeout := 10, startLimit := 200, margin := 2, denyHoldOff := 50, checkInGrace := 150,
        noticeGrace := 100, unlisted := none, floor := 0, split := 96,
        flowA := { on := false, onThreshold := 72, offThreshold := 40 },
        flowB := { on := false, onThreshold := 72, offThreshold := 40 }, holdLimit := 50, silenceLimit := 20,
        alertMask := 0, alertPort := .portA, noticeMap := [],
        lines := Vector.replicate 8 { parity := .noParity, suspectAccept := false } } ∧
    (∀ (tab : Table) (i : Nat), t.tableGen tab = 0 ∧ t.entryGen tab i = 0) ∧
    (∀ r : Fin 24, t.record r = none) ∧
    (∀ k : Fin 4, t.slot k = { state := .idle, call := none, approach := none, kind := none, duration := none,
                               members := [], cause := none, wasServing := false } ∧ t.slotTimer k = none) ∧
    t.nextCall = 1 ∧
    (∀ ap : Fin 8, t.lockout ap = none) ∧ t.evalDue = false ∧
    t.controller = { ready := level, unresponsive := false, timeoutCount := 0, phaseKnown := false, greenSet := 0,
                     phaseAge := 30 } ∧
    t.msgReceiver = .hunt ∧ t.output = [] ∧
    (∀ ref : CounterRef, t.counters.get ref = 0 ∧ t.rollover.get ref.group = false) ∧
    t.conditions = 0 ∧ t.alertCount = 0

/-! ### Counters, conditions and ALERTs -/

/-- A counting raises its one counter by one modulo 2^32; at the wrap the group's rollover flag is set, and
COUNTER_ROLLOVER is raised if the flag was clear. Nothing else changes. A raising sets its condition and no other; a
condition already set is no change; a rise owes an ALERT exactly when the condition is masked in and no ALERT is pending. -/
def Obligations.CountingAndRaising : Prop :=
  (∀ (s : State) (ref : CounterRef),
     (s.count ref).counters.get ref = s.counters.get ref + 1 ∧
     (∀ other : CounterRef, other ≠ ref → (s.count ref).counters.get other = s.counters.get other) ∧
     (s.counters.get ref ≠ 4294967295 → s.count ref = { s with counters := (s.count ref).counters }) ∧
     (s.counters.get ref = 4294967295 → s.rollover.get ref.group = true →
       s.count ref = { s with counters := (s.count ref).counters }) ∧
     (s.counters.get ref = 4294967295 → s.rollover.get ref.group = false →
       s.count ref = { s with counters := (s.count ref).counters,
                              rollover := s.rollover.put ref.group true }.raise .counterRollover ∧
       (s.count ref).rollover.get ref.group = true)) ∧
  ∀ (s : State) (c : Condition),
    (hasCondition s.conditions c = true → s.raise c = s) ∧
    (hasCondition s.conditions c = false →
      (∀ d : Condition, hasCondition (s.raise c).conditions d = (hasCondition s.conditions d || decide (d = c))) ∧
      s.raise c = { s with conditions := (s.raise c).conditions,
                           alertDue := s.alertDue || (hasCondition s.params.alertMask c && decide (s.alertCount = 0)) })

/-- At the end of an event in which an ALERT is owed, one copy is offered to each alert port, port A first; a copy that
fits is appended and raises the alert count, one that does not changes nothing; no ALERT owed changes nothing. Its place
after the event's other claims and the byte order of its condition set are read by inference (DEDUCED, logs 13 and 28). -/
def Obligations.AlertOfferedAtEventEnd : Prop :=
  ∀ s : State,
    let s' := { s with alertDue := false }
    let f := composeFrame 0 s.address 0x07 63 0
      (bytes16 s.conditions.toNat ++ bytes24 s.corridorTime ++ [if s.timeSet then 1 else 0])
    let offer := fun (p : Port) (t : State) =>
      if f.units + usedUnits (t.port p).queue ≤ t.partition p then
        { t.setQueue p ((t.port p).queue ++ [{ frame := f, ownAlert := true }]) with alertCount := t.alertCount + 1 }
      else t
    f.units = 2 ∧
    (s.alertDue = false → s.endEvent = s) ∧
    (s.alertDue = true → s.params.alertPort = .portA → s.endEvent = offer .a s') ∧
    (s.alertDue = true → s.params.alertPort = .portB → s.endEvent = offer .b s') ∧
    (s.alertDue = true → s.params.alertPort = .both → s.endEvent = offer .b (offer .a s'))

/-! ### Line formats -/

/-- The CRC's two reference values, and both ways of checking it. Every frame the engine can send, sent byte by
byte behind a start byte, is received valid with every field and every body byte as sent. A bad stop bit anywhere behind the
start byte makes the frame a CRC error, read to its end; so do CRC bytes that do not check; a body length byte of 57 or more
makes it a length error and sends the receiver to QUIET. -/
def Obligations.FramesAndTheirCrc : Prop :=
  (crc [] = 0xFFFF ∧ crc [0x31, 0x32, 0x33, 0x34, 0x35, 0x36, 0x37, 0x38, 0x39] = 0x29B1 ∧
   (∀ bytes : List Byte, crcBytes bytes = [byteOf ((crc bytes).toNat / 256), byteOf (crc bytes).toNat]) ∧
   ∀ (bytes : List Byte) (hi lo : Byte), crc (bytes ++ [hi, lo]) = 0 ↔ [hi, lo] = crcBytes bytes) ∧
  (∀ f : LinkFrame, f.body.length ≤ 56 →
     runChars Receiver.char .hunt (goodChars (0x7E :: f.wire)) = .ended .hunt (.valid f)) ∧
  (∀ (f : LinkFrame) (chars : List SerialChar), f.body.length ≤ 56 → chars.map (fun c => c.data) = f.wire →
    (∃ c ∈ chars, c.stopGood = false) →
    runChars Receiver.char .hunt ({ data := 0x7E, stopGood := true } :: chars) = .ended .hunt .crcError) ∧
  (∀ (f : LinkFrame) (check : List Byte), f.body.length ≤ 56 → check.length = 2 → check ≠ crcBytes f.content →
    runChars Receiver.char .hunt (goodChars (0x7E :: f.content ++ check)) = .ended .hunt .crcError) ∧
  ∀ (chars : List SerialChar) (last : SerialChar), chars.length = 5 → 57 ≤ last.data.toNat →
    runChars Receiver.char .hunt ({ data := 0x7E, stopGood := true } :: chars ++ [last]) = .ended .quiet .lengthError

/-- Each entry written in its bytes reads back as it was, for every value each field's bits can hold: APPROACH, ROUTE and
PARAMS as numbers, CONFLICTS as a set of pairs. A stored entry turned into its numbers and back is the same entry. -/
def Obligations.TableBytesReadBack : Prop :=
  (∀ x : RawApproach, x.inUse < 2 → x.rank < 8 → x.kinds < 8 → x.checkIn < 16 → x.checkOut < 16 → x.phaseGroup < 256 →
    x.downDirection < 4 → x.downAddress < 64 → x.jumpDuration < 256 → x.travel < 4096 → x.dwell < 4096 →
    x.extension < 4096 → x.earlyDuration < 4096 → x.lockout < 4096 → x.downTravel < 4096 →
    x.toBytes.length = 14 ∧ RawApproach.ofBytes x.toBytes = x) ∧
  (∀ x : RawRoute, x.inUse < 2 → x.direction < 2 → x.route < 16384 → x.excluded < 2 → x.cutOff < 128 →
    x.baseLevel < 8 → x.places.length = 3 → (∀ t ∈ x.places, t < 128) →
    x.toBytes.length = 6 ∧ RawRoute.ofBytes x.toBytes = x) ∧
  (∀ x : RawParams, (∀ n ∈ [x.window, x.responseTimeout, x.margin, x.unlisted, x.floor, x.split, x.onA, x.onThresholdA,
      x.offThresholdA, x.onB, x.onThresholdB, x.offThresholdB, x.holdLimit, x.silenceLimit, x.alertPort], n < 256) →
    (∀ n ∈ [x.startLimit, x.denyHoldOff, x.checkInGrace, x.noticeGrace], n < 65536) → x.alertMask < 8192 →
    x.noticeMap.length = x.mapCount → x.mapCount ≤ 4 → (∀ q ∈ x.noticeMap, q.1 < 256 ∧ q.2 < 256) →
    x.lines.length = 8 → (∀ q ∈ x.lines, q.1 < 4 ∧ q.2 < 2) →
    x.toBytes.length = 42 ∧ RawParams.ofBytes x.toBytes = x) ∧
  (∀ (s : State) (inSet : Fin 8 × Fin 8 → Bool), s.conflicts = allPairs.filter inSet →
    s.conflictBytes.length = 1 + s.conflicts.length ∧ conflictSet (rawPairs s.conflictBytes) = s.conflicts) ∧
  (∀ e : ApproachEntry, e.downAddress ≠ some 0 → e.raw.entry = e) ∧
  (∀ e : RouteEntry, e.late.length ≤ 3 → (∀ t ∈ e.late, t ≠ 0) → e.cutOff ≠ some 0 → e.raw.entry = e) ∧
  ∀ e : Params, (∀ v ∈ e.unlisted, v < 8) → e.raw.entry = e

/-- Where each field stands in the bytes of an entry, bit by bit, in every run of bytes received, and what its number names:
a line code of Fh is none, a downstream direction of 1 is A and 2 is B, an address, cut-off or threshold of 0 is absent, an
unlisted level of FFh is REFUSE, a parity of 1 is odd and 2 is even, an alert port of 1, 2 or 3 is A, B or both. -/
def Obligations.TableByteLayouts : Prop :=
  (∀ b0 b1 b2 b3 b4 b5 b6 b7 b8 b9 b10 b11 b12 b13 : Byte,
    RawApproach.ofBytes [b0, b1, b2, b3, b4, b5, b6, b7, b8, b9, b10, b11, b12, b13] =
      { inUse := (b0.extractLsb' 7 1).toNat, rank := (b0.extractLsb' 4 3).toNat, kinds := (b0.extractLsb' 0 3).toNat
        checkIn := (b1.extractLsb' 4 4).toNat, checkOut := (b1.extractLsb' 0 4).toNat, phaseGroup := b2.toNat
        downDirection := (b3.extractLsb' 6 2).toNat, downAddress := (b3.extractLsb' 0 6).toNat
        jumpDuration := b4.toNat
        travel := (b5 ++ b6.extractLsb' 4 4).toNat, dwell := (b6.extractLsb' 0 4 ++ b7).toNat
        extension := (b8 ++ b9.extractLsb' 4 4).toNat, earlyDuration := (b9.extractLsb' 0 4 ++ b10).toNat
        lockout := (b11 ++ b12.extractLsb' 4 4).toNat, downTravel := (b12.extractLsb' 0 4 ++ b13).toNat }) ∧
  (∀ b0 b1 b2 b3 b4 b5 : Byte, RawRoute.ofBytes [b0, b1, b2, b3, b4, b5] =
    { inUse := (b0.extractLsb' 7 1).toNat, direction := (b0.extractLsb' 6 1).toNat
      route := (b0.extractLsb' 0 6 ++ b1).toNat, excluded := (b2.extractLsb' 7 1).toNat
      cutOff := (b2.extractLsb' 0 7).toNat, baseLevel := (b3.extractLsb' 5 3).toNat
      places := [(b3.extractLsb' 0 5 ++ b4.extractLsb' 6 2).toNat, (b4.extractLsb' 0 6 ++ b5.extractLsb' 7 1).toNat,
                 (b5.extractLsb' 0 7).toNat] }) ∧
  (∀ b : List Byte,
    let x := RawParams.ofBytes b
    let word := fun (i : Nat) => byteAt b i * 256 + byteAt b (i + 1)
    x = { x with
      window := byteAt b 0, responseTimeout := byteAt b 1, startLimit := word 2, margin := byteAt b 4
      denyHoldOff := word 5, checkInGrace := word 7, noticeGrace := word 9, unlisted := byteAt b 11
      floor := byteAt b 12, split := byteAt b 13, onA := byteAt b 14, onThresholdA := byteAt b 15
      offThresholdA := byteAt b 16, onB := byteAt b 17, onThresholdB := byteAt b 18, offThresholdB := byteAt b 19
      holdLimit := byteAt b 20, silenceLimit := byteAt b 21, alertMask := byteAt b 22 % 32 * 256 + byteAt b 23
      alertPort := byteAt b 24, mapCount := byteAt b 25 } ∧
    (∀ i : Nat, x.noticeMap[i]? = if i < 4 ∧ i < byteAt b 25 then
        some (byteAt b (26 + 2 * i), byteAt b (27 + 2 * i)) else none) ∧
    ∀ i : Nat, x.lines[i]? = if i < 8 then some (byteAt b (34 + i) % 4, byteAt b (34 + i) / 4 % 2) else none) ∧
  (∀ b : List Byte, rawPairs b = (b.drop 1).map (fun x => ((x.extractLsb' 4 4).toNat, (x.extractLsb' 0 4).toNat))) ∧
  (∀ s : State, s.conflictBytes =
    byteOf s.conflicts.length :: s.conflicts.map (fun q => byteOf (q.1.val * 16 + q.2.val))) ∧
  (∀ x : RawApproach,
    let e := x.entry
    e = { e with
      inUse := decide (x.inUse = 1), phaseGroup := x.phaseGroup, travel := x.travel, dwell := x.dwell
      extension := x.extension, earlyDuration := x.earlyDuration, jumpDuration := x.jumpDuration, lockout := x.lockout
      rank := x.rank, downTravel := x.downTravel
      kinds := { extend := x.kinds.testBit 0, early := x.kinds.testBit 1, jump := x.kinds.testBit 2 }
      downAddress := if x.downAddress = 0 then none else some x.downAddress } ∧
    (∀ l : Fin 8, (e.checkIn = some l ↔ x.checkIn = l.val) ∧ (e.checkOut = some l ↔ x.checkOut = l.val)) ∧
    (e.downDirection = some .a ↔ x.downDirection = 1) ∧ (e.downDirection = some .b ↔ x.downDirection = 2)) ∧
  (∀ x : RawRoute, x.entry =
    { inUse := decide (x.inUse = 1), route := x.route, direction := decide (x.direction = 1), baseLevel := x.baseLevel
      late := x.places.filter (fun t => decide (t ≠ 0)), cutOff := if x.cutOff = 0 then none else some x.cutOff
      excluded := decide (x.excluded = 1) }) ∧
  ∀ x : RawParams,
    let e := x.entry
    e = { e with
      window := x.window, responseTimeout := x.responseTimeout, startLimit := x.startLimit, margin := x.margin
      denyHoldOff := x.denyHoldOff, checkInGrace := x.checkInGrace, noticeGrace := x.noticeGrace, floor := x.floor
      split := x.split, holdLimit := x.holdLimit, silenceLimit := x.silenceLimit
      flowA := { on := decide (x.onA = 1), onThreshold := x.onThresholdA, offThreshold := x.offThresholdA }
      flowB := { on := decide (x.onB = 1), onThreshold := x.onThresholdB, offThreshold := x.offThresholdB } } ∧
    (∀ v, v < 8 → (e.unlisted = some v ↔ x.unlisted = v)) ∧ (x.unlisted = 255 → e.unlisted = none) ∧
    (∀ c : Condition, hasCondition e.alertMask c = x.alertMask.testBit c.number) ∧
    (x.alertPort = 1 → e.alertPort = .portA) ∧ (x.alertPort = 2 → e.alertPort = .portB) ∧
    (x.alertPort = 3 → e.alertPort = .both) ∧
    ((∀ q ∈ x.noticeMap, q.2 < 8) → e.noticeMap.map (fun q => (q.1, q.2.val)) = x.noticeMap) ∧
    ∀ (l : Fin 8) (parity accept : Nat), x.lines[l.val]? = some (parity, accept) →
      (parity = 0 → (e.lines[l]).parity = .noParity) ∧ (parity = 1 → (e.lines[l]).parity = .oddParity) ∧
      (parity = 2 → (e.lines[l]).parity = .evenParity) ∧ (e.lines[l]).suspectAccept = decide (accept = 1)

/-- A report with valid data, laid out by its nine characters, is read with every field as laid out. Nine characters are
valid exactly when every test of R13 holds: sync, kind, vehicle, route number, spare, flag bits and checksum. A complete
report has one class, judged in order: framing fault, checksum fault, parity fault, clean. -/
def Obligations.ReportReadAndJudged : Prop :=
  (∀ (l : Fin 8) (suspect : Bool) (kind vehicle route : Nat) (direction : Bool) (late flags sum : Byte),
     1 ≤ kind → kind ≤ 3 → 1 ≤ vehicle → vehicle ≤ 65535 → 1 ≤ route → route ≤ 9999 → flags.toNat ≤ 1 →
     let chars := [0xC3, byteOf kind] ++ bytes16 vehicle ++ bytes16 (routeWord route direction) ++ [late, flags, sum]
     (sumBytes (chars.drop 1) % 256 = 0 →
       ∃ rep, readReport l suspect chars = some rep ∧ reportKindOf kind = some rep.kind ∧ rep.line = l ∧
         rep.vehicle = vehicle ∧ rep.route = route ∧ rep.direction = direction ∧
         rep.lateness = (if late = 0x80 then none else some late.toInt) ∧
         rep.nearside = decide (flags.toNat = 1) ∧ rep.suspect = suspect) ∧
     (sumBytes (chars.drop 1) % 256 ≠ 0 → readReport l suspect chars = none)) ∧
  (∀ (l : Fin 8) (suspect : Bool) (c0 c1 c2 c3 c4 c5 c6 c7 c8 : Byte),
    (readReport l suspect [c0, c1, c2, c3, c4, c5, c6, c7, c8]).isSome = true ↔
      c0 = 0xC3 ∧ (c1 = 0x01 ∨ c1 = 0x02 ∨ c1 = 0x03) ∧ (c2 ++ c3).toNat ≠ 0 ∧
      1 ≤ ((c4 ++ c5).extractLsb' 2 14).toNat ∧ ((c4 ++ c5).extractLsb' 2 14).toNat ≤ 9999 ∧ c5.getLsbD 0 = false ∧
      (c7.extractLsb' 1 7) = 0 ∧ sumBytes [c1, c2, c3, c4, c5, c6, c7, c8] % 256 = 0) ∧
  ∀ (l : Fin 8) (raw : RawReport),
    (raw.framingMark = true → judge l raw = .framing) ∧
    (raw.framingMark = false → readReport l raw.parityMark raw.chars = none → judge l raw = .checksum) ∧
    (∀ rep, raw.framingMark = false → readReport l raw.parityMark raw.chars = some rep → raw.parityMark = true →
      judge l raw = .parity rep ∧ rep.suspect = true) ∧
    (∀ rep, raw.framingMark = false → readReport l raw.parityMark raw.chars = some rep → raw.parityMark = false →
      judge l raw = .clean rep ∧ rep.suspect = false)

/-- A message composed for a slot: its kind, number, group, code and duration stand in their bytes, and bytes 1 to 7
sum to 0 modulo 256. Eight characters with good stop bits, the first A5h, are one message to a receiver in HUNT:
invalid when its bytes 1 to 7 do not sum to 0 or its kind is not the controller's, else read by its fields. A bad stop bit
behind the sync byte makes the message invalid whatever its bytes. -/
def Obligations.ControllerMessageBytes : Prop :=
  (∀ m : CtrlMessage, m.bytes.length = 8 ∧ m.bytes.head? = some 0xA5 ∧ sumBytes (m.bytes.drop 1) % 256 = 0 ∧
     byteAt m.bytes 1 = (match m.kind with | .call => 1 | .cancel => 2 | .release => 3) ∧
     byteAt m.bytes 2 = m.call % 256 ∧ byteAt m.bytes 3 = m.group % 256 ∧
     byteAt m.bytes 4 = (match m.code with | none => 0 | some .extend => 1 | some .early => 2 | some .jump => 3) ∧
     word16At m.bytes 5 = m.duration % 65536) ∧
  (∀ (s : State) (b1 b2 b3 b4 b5 b6 b7 : Byte), s.msgReceiver = .hunt →
    let m := s.messageFrom (goodChars [0xA5, b1, b2, b3, b4, b5, b6, b7])
    let sum := sumBytes [b1, b2, b3, b4, b5, b6, b7] % 256
    (sum ≠ 0 → m = some .invalid) ∧
    (sum = 0 → b1 = 0x11 → m = some (.accept b2.toNat)) ∧
    (sum = 0 → b1 = 0x12 → m = some (.deny b2.toNat (if b4 = 0x02 then .never else .notNow))) ∧
    (sum = 0 → b1 = 0x13 → m = some (.start b2.toNat)) ∧
    (sum = 0 → b1 = 0x14 →
      m = some (.endService b2.toNat (if b4 = 0x01 then .normal else if b4 = 0x03 then .cancelled else .overridden))) ∧
    (sum = 0 → b1 = 0x15 → m = some (.phases (b5 ++ b6))) ∧
    (sum = 0 → b1.toNat < 0x11 ∨ 0x15 < b1.toNat → m = some .invalid)) ∧
  ∀ (s : State) (chars : List SerialChar), s.msgReceiver = .hunt → chars.length = 7 →
    (∃ c ∈ chars, c.stopGood = false) →
    s.messageFrom ({ data := 0xA5, stopGood := true } :: chars) = some .invalid

/-! ### Corridor receive -/

/-- FRAME_START begins a frame with nothing stored and no damage mark, and stores what arrives behind the start
byte. CORRIDOR_RX_IDLE leaves the receiver in HUNT; a frame in progress is handed to the port as a CRC error.
The characters that do not end an item come with its start or end (the model's choice, log 8). -/
def Obligations.CorridorReceiverStartsAndIdles : Prop :=
  ∀ (s : State) (p : Port),
    let u := s.setPort p { s.port p with receiver := .hunt }
    ((s.port p).receiver = .hunt →
      exec (.frameStart p []) s = .next (s.setPort p { s.port p with receiver := .header [] false }).endEvent) ∧
    (∀ (more : List SerialChar) (r : Receiver), (s.port p).receiver = .hunt →
      runChars Receiver.char (.header [] false) more = .going r →
      exec (.frameStart p more) s = .next (s.setPort p { s.port p with receiver := r }).endEvent) ∧
    ((s.port p).receiver.inProgress = false → exec (.corridorRxIdle p) s = .next u.endEvent) ∧
    ((s.port p).receiver.inProgress = true →
      exec (.corridorRxIdle p) s = .next (u.frameResult p .crcError).endEvent)

/-- A valid frame on an ENABLED port is counted in RX_GOOD, restarts the silence timer, clears SILENT, and acts by its
kind. -/
def Obligations.ValidFrameActsByKind : Prop :=
  ∀ (s : State) (p : Port) (chars : List SerialChar) (r : Receiver) (f : LinkFrame),
    s.frameFrom p chars = some (r, .valid f) → (s.port p).mode = .enabled →
    let v := (s.setPort p { s.port p with receiver := r }).count (.port p .rxGood)
    let u := v.setPort p { v.port p with silent := false, silenceTimer := some s.params.silenceLimit }
    let w := u.count (.port p .holdsReceived)
    (f.kind = 0x00 → exec (.validFrame p chars) s = .next u.endEvent) ∧
    (f.kind = 0x01 → exec (.validFrame p chars) s =
      .next (w.setPort p { w.port p with held := true, holdTimer := some s.params.holdLimit }).endEvent) ∧
    (f.kind = 0x02 → (s.port p).held = true →
      exec (.validFrame p chars) s = .next (u.setPort p { u.port p with held := false, holdTimer := none }).endEvent) ∧
    (f.kind = 0x02 → (s.port p).held = false → exec (.validFrame p chars) s = .next u.endEvent) ∧
    (3 ≤ f.kind.toNat → exec (.validFrame p chars) s = .next (u.route p f).endEvent)

/-- CRC_ERROR, LENGTH_ERROR and VALID_FRAME, in every port state: the receiver is left as the characters leave it, and
the result is handed to the port. On an ENABLED port an error is counted and raises LINK_CRC, and a valid frame is counted,
restarts the silence timer, clears SILENT and acts by its kind. A result on a DISABLED port, or on a DRAINING port when it
is not the marked frame's, counts RX_WHILE_DISABLED and does nothing else; the marked frame's is taken as on an ENABLED
port, the silence timer left stopped. -/
def Obligations.FrameResultsByPortState : Prop :=
  (∀ (s : State) (p : Port) (chars : List SerialChar) (r : Receiver) (res : RxResult),
    s.frameFrom p chars = some (r, res) →
    let row := match res with
      | .valid _ => Instr.validFrame p chars
      | .crcError => .crcError p chars
      | .lengthError => .lengthError p chars
    exec row s = .next ((s.setPort p { s.port p with receiver := r }).frameResult p res).endEvent) ∧
  ∀ (s : State) (p : Port) (res : RxResult),
    let errors := fun (u : State) =>
      (res = .crcError → s.frameResult p res = (u.count (.port p .rxCrcErr)).raise .linkCrc) ∧
      (res = .lengthError → s.frameResult p res = (u.count (.port p .rxLengthErr)).raise .linkCrc)
    let hold := fun (u : State) => u.setPort p { u.port p with held := true, holdTimer := some s.params.holdLimit }
    let byKind := fun (u : State) (f : LinkFrame) =>
      if f.kind = 0x00 then u
      else if f.kind = 0x01 then hold (u.count (.port p .holdsReceived))
      else if f.kind = 0x02 then
        (if (u.port p).held then u.setPort p { u.port p with held := false, holdTimer := none } else u)
      else u.route p f
    ((s.port p).mode = .disabled ∨ ((s.port p).mode = .draining ∧ (s.port p).rxMarked = false) →
      s.frameResult p res = s.count (.port p .rxWhileDisabled)) ∧
    ((s.port p).mode = .enabled → errors s ∧ ∀ f, res = .valid f →
      let v := s.count (.port p .rxGood)
      s.frameResult p res =
        byKind (v.setPort p { v.port p with silent := false, silenceTimer := some s.params.silenceLimit }) f) ∧
    ((s.port p).mode = .draining → (s.port p).rxMarked = true →
      let u := s.setPort p { s.port p with rxMarked := false }
      errors u ∧ ∀ f, res = .valid f →
        let v := u.count (.port p .rxGood)
        s.frameResult p res = byKind (v.setPort p { v.port p with silent := false }) f)

/-- Routing: own address consumed, TIME to 63 consumed and relayed, all else relayed; UNADDRESSED matches no own address. A
consumed frame is appended to the local inbound queue, or dropped when it holds 8. -/
def Obligations.RoutingAndConsumption : Prop :=
  ∀ (s : State) (p : Port) (f : LinkFrame),
    (s.mode ≠ .unaddressed → low6 f.dest = s.address.toNat → s.route p f = s.consume p f) ∧
    ((s.mode = .unaddressed ∨ low6 f.dest ≠ s.address.toNat) → low6 f.dest = 63 → f.kind = 0x03 →
      s.route p f = (s.consume p f).relay p f) ∧
    ((s.mode = .unaddressed ∨ low6 f.dest ≠ s.address.toNat) → (low6 f.dest ≠ 63 ∨ f.kind ≠ 0x03) →
      s.route p f = s.relay p f) ∧
    (s.inbound.length < 8 → s.consume p f = { s with inbound := s.inbound ++ [{ port := p, frame := f }] }) ∧
    (8 ≤ s.inbound.length → s.consume p f = (s.count (.loc .inboundDropped)).raise .inboundFull)

/-- The relay's three tests in turn, each drop counted in the arrival port's group; a frame that passes is appended to the
other port's queue with a hop limit one less, its upper two bits 0, and nothing else of it changed. -/
def Obligations.RelayTestsThenAppends : Prop :=
  ∀ (s : State) (p : Port) (f : LinkFrame),
    let q := match p with | .a => Port.b | .b => Port.a
    let g : LinkFrame := { f with hop := byteOf (low6 f.hop - 1) }
    (low6 f.hop = 0 → s.relay p f = s.count (.port p .hopExpired)) ∧
    (low6 f.hop ≠ 0 → (s.port q).mode ≠ .enabled → s.relay p f = s.count (.port p .relayBlocked)) ∧
    (low6 f.hop ≠ 0 → (s.port q).mode = .enabled → s.partition q < f.units + usedUnits (s.port q).queue →
      s.relay p f = (s.count (.port p .relayDroppedFull)).raise .linkDrop) ∧
    (low6 f.hop ≠ 0 → (s.port q).mode = .enabled → f.units + usedUnits (s.port q).queue ≤ s.partition q →
      s.relay p f = s.setQueue q ((s.port q).queue ++ [{ frame := g, ownAlert := false }])) ∧
    g.units = f.units ∧ g.length = f.length

/-! ### Corridor transmit and port control -/

/-- A changed queue changes the queue and then, through flow control, at most the other port's holding flag, pending frame
and hold-repeat timer: HOLD at the on-threshold, RESUME at the off-threshold or with flow control off. -/
def Obligations.FlowControlFollowsQueue : Prop :=
  ∀ (s : State) (p : Port),
    let x := s.port p
    let fc := match p with | .a => s.params.flowA | .b => s.params.flowB
    let fed := usedUnits (match p with | .a => s.portB.queue | .b => s.portA.queue)
    (x.mode = .enabled → x.holding = false → fc.on = true → fc.onThreshold ≤ fed →
      s.evalFlow p = s.setPort p { x with holding := true, pendingControl := some .hold,
                                          holdRepeat := some (s.params.holdLimit / 2) }) ∧
    (x.mode = .enabled → x.holding = true → (fc.on = false ∨ fed ≤ fc.offThreshold) →
      s.evalFlow p = s.setPort p { x with holding := false, pendingControl := some .resume, holdRepeat := none }) ∧
    (x.mode ≠ .enabled → s.evalFlow p = s) ∧
    (x.holding = false → (fc.on = false ∨ fed < fc.onThreshold) → s.evalFlow p = s) ∧
    (x.holding = true → fc.on = true → fc.offThreshold < fed → s.evalFlow p = s) ∧
    ∀ q, s.setQueue p q = (s.setPort p { x with queue := q }).evalFlow (match p with | .a => .b | .b => .a)

/-- TX_START on an ENABLED port with a free line: the pending control frame, else the queue's head unless held, else
a FILL when the fill timer has run out, else nothing. FRAME_TX_END: TX_FRAMES is counted, the line is free, an ENABLED port's
fill timer restarts at 5; a queued frame leaves the head of its queue with its units, and an ALERT of this engine lowers the
alert count. The next frame starts at the next TX_START (DEDUCED, log 12); TX_FRAMES is counted before the alert count falls
(the model's choice, log 27). -/
def Obligations.TransmitSideStartsAndEnds : Prop :=
  (∀ (s : State) (p : Port), (s.port p).mode = .enabled → (s.port p).sending = none →
     let x := s.port p
     let src : BitVec 6 := if s.mode = .unaddressed then 0 else s.address
     (x.pendingControl = some .hold → exec (.txStart p) s = .next
       ((s.setPort p { x with pendingControl := none,
                              sending := some { origin := .control .hold, frame := composeFrame 0 src 0x01 0 0 [] } }).count
         (.port p .holdsSent)).endEvent) ∧
     (x.pendingControl = some .resume → exec (.txStart p) s = .next
       (s.setPort p { x with pendingControl := none,
                             sending := some { origin := .control .resume,
                                               frame := composeFrame 0 src 0x02 0 0 [] } }).endEvent) ∧
     (∀ f rest, x.pendingControl = none → x.queue = f :: rest → x.held = false →
       exec (.txStart p) s = .next (s.setPort p { x with sending := some { origin := .queue, frame := f.frame } }).endEvent) ∧
     (x.pendingControl = none → (x.queue = [] ∨ x.held = true) → x.fillTimer = some 0 →
       exec (.txStart p) s = .next
         (s.setPort p { x with sending := some { origin := .fill, frame := composeFrame 0 src 0x00 0 0 [] } }).endEvent) ∧
     (x.pendingControl = none → (x.queue = [] ∨ x.held = true) → x.fillTimer ≠ some 0 → exec (.txStart p) s = .next s)) ∧
  ∀ (s : State) (p : Port) (x : Sending), (s.port p).sending = some x →
    let v := s.count (.port p .txFrames)
    let u := v.setPort p { v.port p with sending := none, txMarked := false,
                                         fillTimer := if (s.port p).mode = .enabled then some 5
                                                      else (s.port p).fillTimer }
    (x.origin ≠ .queue → exec (.frameTxEnd p) s = .next u.endEvent) ∧
    (∀ f rest, x.origin = .queue → (s.port p).queue = f :: rest → f.ownAlert = false →
      exec (.frameTxEnd p) s = .next (u.setQueue p rest).endEvent) ∧
    (∀ f rest, x.origin = .queue → (s.port p).queue = f :: rest → f.ownAlert = true →
      exec (.frameTxEnd p) s = .next
        { u.setQueue p rest with alertCount := (u.setQueue p rest).alertCount - 1 }.endEvent)

/-- DRAIN_COMPLETE: a DRAINING port none of whose marked frames is under way becomes DISABLED; nothing else changes.
The port timers run out: fill, hold, hold-repeat and silence. DRAIN_COMPLETE is a step of its own (DEDUCED, log 10), and an
expiry acts on a running timer whatever is left of it (the model's choice, log 3). -/
def Obligations.PortTimersAndDrain : Prop :=
  (∀ (s : State) (p : Port), (s.port p).mode = .draining →
     ((s.port p).rxMarked = false → (s.port p).txMarked = false →
       exec (.drainComplete p) s = .next (s.setPort p { s.port p with mode := .disabled }).endEvent) ∧
     ((s.port p).rxMarked = true ∨ (s.port p).txMarked = true → exec (.drainComplete p) s = .next s)) ∧
  ∀ (s : State) (p : Port),
    let x := s.port p
    let src : BitVec 6 := if s.mode = .unaddressed then 0 else s.address
    (x.mode = .enabled → x.fillTimer.isSome = true → x.sending = none → x.pendingControl = none →
      (x.queue = [] ∨ x.held = true) → exec (.fillTimerExpiry p) s = .next
        (s.setPort p { x with fillTimer := some 0,
                              sending := some { origin := .fill, frame := composeFrame 0 src 0x00 0 0 [] } }).endEvent) ∧
    (x.mode = .enabled → x.fillTimer.isSome = true →
      (x.sending ≠ none ∨ x.pendingControl ≠ none ∨ (x.queue ≠ [] ∧ x.held = false)) →
      exec (.fillTimerExpiry p) s = .next (s.setPort p { x with fillTimer := some 0 }).endEvent) ∧
    (x.holdTimer.isSome = true → exec (.holdTimerExpiry p) s = .next
      (((s.setPort p { x with held := false, holdTimer := none }).count (.port p .holdExpiries)).raise
        .holdExpired).endEvent) ∧
    (x.holdRepeat.isSome = true → exec (.holdRepeatExpiry p) s = .next
      (s.setPort p { x with holdRepeat := some (s.params.holdLimit / 2),
                            pendingControl := if x.mode = .enabled then some .hold else x.pendingControl }).endEvent) ∧
    (x.mode = .enabled → x.silenceTimer.isSome = true → (x.held = true ∨ x.holdTimer = none) →
      exec (.silenceTimerExpiry p) s = .next
        ((s.setPort p { x with silent := true, silenceTimer := none, held := false, holdTimer := none }).raise
          .neighborSilent).endEvent)

/-- PORT CONTROL DISABLE and ENABLE, each with its REPLY, by the port's state. PORT CONTROL RESET: a DISABLED port's
queue is emptied and its flags, pending frame and hold timers cleared, FLUSHED rises by the number of frames,
the alert count falls by this engine's ALERTs among them; any other port state answers BAD_STATE and changes
nothing. Stated where FLUSHED does not wrap (what a wrap owes rests on the model's choice, log 14). -/
def Obligations.PortControlActions : Prop :=
  (∀ (s : State) (x : InboundFrame) (rest : List InboundFrame) (p : Port), RequestAtHead s x rest 0x09 →
     3 ≤ x.frame.body.length → portOfCode (byteAt x.frame.body 1) = some p →
     let u := afterTake s rest
     let y := s.port p
     let rx := y.receiver.inProgress
     let tx := y.sending.isSome
     (byteAt x.frame.body 2 = 0 → y.mode = .enabled → exec .portDisable s = .next (answered
       (u.setPort p { y with mode := if rx || tx then .draining else .disabled, rxMarked := rx, txMarked := tx,
                             fillTimer := none, silenceTimer := none }) x (.plain .done))) ∧
     (byteAt x.frame.body 2 = 0 → y.mode ≠ .enabled → exec .portDisable s = .next (answered u x (.plain .done))) ∧
     (byteAt x.frame.body 2 = 1 → y.mode ≠ .enabled → exec .portEnable s = .next (answered
       ((u.setPort p { y with mode := .enabled, rxMarked := false, txMarked := false,
                              silenceTimer := some s.params.silenceLimit, fillTimer := some 5 }).evalFlow p) x
       (.plain .done))) ∧
     (byteAt x.frame.body 2 = 1 → y.mode = .enabled → exec .portEnable s = .next (answered u x (.plain .badState)))) ∧
  ∀ (s : State) (x : InboundFrame) (rest : List InboundFrame) (p : Port), RequestAtHead s x rest 0x09 →
    3 ≤ x.frame.body.length → portOfCode (byteAt x.frame.body 1) = some p → byteAt x.frame.body 2 = 2 →
    let u := afterTake s rest
    let y := s.port p
    let n := y.queue.length
    let ref := CounterRef.port p .flushed
    (y.mode = .disabled → (s.counters.get ref).toNat + n < 4294967296 → exec .portReset s = .next (answered
      ({ u with counters := s.counters.put ref (s.counters.get ref + BitVec.ofNat 32 n),
                alertCount := s.alertCount - ownAlerts y.queue }.setPort p
          { y with queue := [], held := false, holding := false, silent := false, pendingControl := none,
                   holdTimer := none, holdRepeat := none } |>.evalFlow (match p with | .a => .b | .b => .a)) x
      (.plain .done))) ∧
    (y.mode ≠ .disabled → exec .portReset s = .next (answered u x (.plain .badState)))

/-! ### Beacon lines -/

/-- REPORT_START: a sync character with a good stop bit in SEEK begins a report, its parity mark set by the line's
parity setting, its framing mark clear. Characters that do not end the report are stored, each judged under the parity
setting in force as it arrives, so that a PARAMS write may fall between two of them; they come with the report's start, with
its end, or with a REPORT_COMPLETE of their own (the model's choice, log 8). BEACON_LINE_IDLE: SETTLE goes to SEEK, SEEK
stays, and a report in COLLECT is cut off as a framing fault, by the line's state (on a DRAINING line also a
LINE_DRAIN_COMPLETE: DEDUCED, log 11). -/
def Obligations.AssemblerStartsAndIdles : Prop :=
  (∀ (s : State) (l : Fin 8) (parityBit : Bool), (s.line l).mode = .enabled ∨ (s.line l).mode = .draining →
    let c : BeaconChar := { data := 0xC3, parityBit := parityBit, stopGood := true }
    let parity := (s.params.lines[l]).parity
    let a := Assembler.collect [0xC3] (parityError parity c) false
    let x := s.line l
    ((s.line l).assembler = .seek →
      exec (.reportStart l parityBit []) s = .next (s.setLine l { s.line l with assembler := a }).endEvent) ∧
    (∀ (more : List BeaconChar) (b : Assembler), (s.line l).assembler = .seek →
      runChars (Assembler.char parity) a more = .going b →
      exec (.reportStart l parityBit more) s = .next (s.setLine l { s.line l with assembler := b }).endEvent) ∧
    (∀ (chars : List BeaconChar) (b : Assembler), runChars (Assembler.char parity) x.assembler chars = .going b →
      exec (.reportComplete l chars) s = .next (s.setLine l { x with assembler := b }).endEvent) ∧
    (∀ got p f (d : BeaconChar), x.assembler = .collect got p f → got.length < 8 →
      exec (.reportComplete l [d]) s = .next (s.setLine l
        { x with assembler := .collect (got ++ [d.data]) (p || parityError parity d) (f || !d.stopGood) }).endEvent) ∧
    ((s.line l).assembler = .settle →
      exec (.beaconLineIdle l) s = .next (s.setLine l { s.line l with assembler := .seek }).endEvent) ∧
    ((s.line l).assembler = .seek → exec (.beaconLineIdle l) s = .next s.endEvent) ∧
    (∀ chars p f, x.assembler = .collect chars p f → x.mode = .enabled → exec (.beaconLineIdle l) s =
      .next (((s.count (.beacon l .framingErr)).raise .beaconFault).setLine l
        (if 8 ≤ x.streak + 1 then { mode := .quarantined, assembler := .settle, buffer := none, streak := 8 }
         else { x with assembler := .seek, streak := x.streak + 1 })).endEvent) ∧
    (∀ chars p f, x.assembler = .collect chars p f → x.mode = .draining → exec (.beaconLineIdle l) s =
      .next (((s.count (.beacon l .framingErr)).raise .beaconFault).setLine l
        { mode := .disabled, assembler := .settle, buffer := none, streak := 0 }).endEvent)) ∧
  ∀ d : BeaconChar,
    let ones := (List.range 8).countP (fun i => d.data.getLsbD i) + (if d.parityBit then 1 else 0)
    parityError .noParity d = false ∧ parityError .oddParity d = decide (ones % 2 = 0) ∧
      parityError .evenParity d = decide (ones % 2 = 1)

/-- A report that ends on an ENABLED line is dealt with by its class: faults are counted, raise BEACON_FAULT and add to the
streak, at 8 the line is quarantined; a suspect or clean report is offered to the holding buffer. -/
def Obligations.EnabledLineDealsByClass : Prop :=
  ∀ (s : State) (l : Fin 8) (chars : List BeaconChar) (raw : RawReport), (s.line l).mode = .enabled →
    s.reportFrom l chars = some raw →
    let u := s.setLine l { s.line l with assembler := .seek }
    let accept := (s.params.lines[l]).suspectAccept
    let fault := fun (v : State) =>
      (v.raise .beaconFault).setLine l
        (if 8 ≤ (s.line l).streak + 1 then { mode := .quarantined, assembler := .settle, buffer := none, streak := 8 }
         else { s.line l with assembler := .seek, streak := (s.line l).streak + 1 })
    let offer := fun (v : State) (rep : Report) =>
      if (s.line l).buffer = none then v.setLine l { v.line l with buffer := some rep }
      else (v.count (.beacon l .overruns)).raise .beaconOverrun
    (judge l raw = .framing →
      exec (.reportComplete l chars) s = .next (fault (u.count (.beacon l .framingErr))).endEvent) ∧
    (judge l raw = .checksum →
      exec (.reportComplete l chars) s = .next (fault (u.count (.beacon l .checksumErr))).endEvent) ∧
    (∀ rep, judge l raw = .parity rep → accept = false →
      exec (.reportComplete l chars) s = .next (fault (u.count (.beacon l .parityErr))).endEvent) ∧
    (∀ rep, judge l raw = .parity rep → accept = true → (s.line l).buffer = none →
      exec (.reportComplete l chars) s = .next
        ((offer (u.count (.beacon l .parityErr)) rep).count (.beacon l .suspectAccepted)).endEvent) ∧
    (∀ rep, judge l raw = .parity rep → accept = true → (s.line l).buffer ≠ none →
      exec (.reportComplete l chars) s = .next (offer (u.count (.beacon l .parityErr)) rep).endEvent) ∧
    (∀ rep, judge l raw = .clean rep → exec (.reportComplete l chars) s = .next
      (offer (s.setLine l { s.line l with assembler := .seek, streak := 0 }) rep).endEvent) ∧
    (∀ rep, judge l raw = .clean rep → rep.suspect = false) ∧ ∀ rep, judge l raw = .parity rep → rep.suspect = true

/-- A report that ends on a DRAINING line, by REPORT_COMPLETE or by LINE_DRAIN_COMPLETE (DEDUCED, log 11), is
counted by its class, reaches no buffer, and the line enters DISABLED with an empty buffer, streak 0 and its assembler in
SETTLE; so does a report cut off, by LINE_DRAIN_COMPLETE. LINE CONTROL DISABLE and ENABLE, each with its REPLY, by the
line's state. -/
def Obligations.LineControlAndDrain : Prop :=
  (∀ (s : State) (l : Fin 8) (got : List Byte) (pm fm : Bool), (s.line l).mode = .draining →
     (s.line l).assembler = .collect got pm fm →
     let off := fun (v : State) => v.setLine l { mode := .disabled, assembler := .settle, buffer := none, streak := 0 }
     let framing := off ((s.count (.beacon l .framingErr)).raise .beaconFault)
     let accept := (s.params.lines[l]).suspectAccept
     exec (.lineDrainComplete l .cutOff) s = .next framing.endEvent ∧
     ∀ chars raw, s.reportFrom l chars = some raw →
       ∀ row ∈ [Instr.reportComplete l chars, .lineDrainComplete l (.ninth chars)],
       (judge l raw = .framing → exec row s = .next framing.endEvent) ∧
       (judge l raw = .checksum → exec row s =
         .next (off ((s.count (.beacon l .checksumErr)).raise .beaconFault)).endEvent) ∧
       (∀ rep, judge l raw = .parity rep → exec row s =
         .next (off (if accept then s.count (.beacon l .parityErr)
                     else (s.count (.beacon l .parityErr)).raise .beaconFault)).endEvent) ∧
       (∀ rep, judge l raw = .clean rep → exec row s = .next (off s).endEvent)) ∧
  ∀ (s : State) (x : InboundFrame) (rest : List InboundFrame) (l : Fin 8), RequestAtHead s x rest 0x0A →
    3 ≤ x.frame.body.length → byteAt x.frame.body 1 = l.val →
    let u := afterTake s rest
    let y := s.line l
    let collecting := ∃ chars p f, y.assembler = .collect chars p f
    (byteAt x.frame.body 2 = 0 → y.mode = .enabled → collecting →
      exec .lineDisable s = .next (answered (u.setLine l { y with mode := .draining }) x (.plain .done))) ∧
    (byteAt x.frame.body 2 = 0 → (y.mode = .enabled ∧ ¬ collecting) ∨ y.mode = .quarantined →
      exec .lineDisable s = .next (answered
        (u.setLine l { mode := .disabled, assembler := .settle, buffer := none, streak := 0 }) x (.plain .done))) ∧
    (byteAt x.frame.body 2 = 0 → y.mode = .draining ∨ y.mode = .disabled →
      exec .lineDisable s = .next (answered u x (.plain .done))) ∧
    (byteAt x.frame.body 2 = 1 → y.mode = .disabled ∨ y.mode = .quarantined →
      exec .lineEnable s = .next (answered
        (u.setLine l { mode := .enabled, assembler := .settle, buffer := none, streak := 0 }) x (.plain .done))) ∧
    (byteAt x.frame.body 2 = 1 → y.mode = .draining →
      exec .lineEnable s = .next (answered (u.setLine l { y with mode := .enabled }) x (.plain .done))) ∧
    (byteAt x.frame.body 2 = 1 → y.mode = .enabled → exec .lineEnable s = .next (answered u x (.plain .badState)))

/-- REPORT_TAKE takes from the first full line after the pointer, wrapping; it empties the buffer, moves the pointer, counts
REPORTS_GOOD, and hands the report on in ACTIVE alone. -/
def Obligations.ReportTakenInTurn : Prop :=
  ∀ (s : State) (l : Fin 8) (rep : Report), (s.line l).buffer = some rep →
    (∀ j : Fin 8, (s.line j).buffer.isSome = true → (l - s.reportPointer - 1).val ≤ (j - s.reportPointer - 1).val) →
    let u := { s.setLine l { s.line l with buffer := none } with reportPointer := l }.count (.beacon l .reportsGood)
    (s.mode ≠ .active → exec .reportTake s = .next u.endEvent) ∧
    (s.mode = .active → exec .reportTake s = .next (u.handReport rep).endEvent) ∧
    (∀ ap : Fin 8, rep.kind = .checkIn → (s.approach ap).inUse = true → (s.approach ap).checkIn = some rep.line →
      (∀ o : Fin 8, o < ap → (s.approach o).inUse = true → (s.approach o).checkIn ≠ some rep.line) →
      u.handReport rep = u.takeCheckIn rep ap) ∧
    (∀ ap : Fin 8, rep.kind = .checkOut → (s.approach ap).inUse = true → (s.approach ap).checkOut = some rep.line →
      (∀ o : Fin 8, o < ap → (s.approach o).inUse = true → (s.approach o).checkOut ≠ some rep.line) →
      u.handReport rep = u.takeCheckOut rep ap) ∧
    (rep.kind = .checkIn → (∀ ap : Fin 8, (s.approach ap).inUse = true → (s.approach ap).checkIn ≠ some rep.line) →
      u.handReport rep = u.count (.beacon rep.line .unmapped)) ∧
    (rep.kind = .checkOut → (∀ ap : Fin 8, (s.approach ap).inUse = true → (s.approach ap).checkOut ≠ some rep.line) →
      u.handReport rep = u.count (.beacon rep.line .unmapped)) ∧
    (rep.kind = .cancel → u.handReport rep = u.takeCancel rep)

/-! ### The request table -/

/-- The level of a bus: by its in-use route entry, or the unlisted parameter; an excluded route and a bus early past the
cut-off are refused; each late threshold reached adds one, up to 7. -/
def Obligations.LevelOfABus : Prop :=
  ∀ (s : State) (route : Nat) (direction : Bool) (lateness : Option Int),
    ((∀ i : Fin 64, ¬ (s.routes[i].inUse = true ∧ s.routes[i].route = route ∧ s.routes[i].direction = direction)) →
      s.level route direction lateness = s.params.unlisted) ∧
    (∀ i : Fin 64, s.routes[i].inUse = true → s.routes[i].route = route → s.routes[i].direction = direction →
      (∀ j : Fin 64, j < i →
        ¬ (s.routes[j].inUse = true ∧ s.routes[j].route = route ∧ s.routes[j].direction = direction)) →
      let e := s.routes[i]
      (e.excluded = true → s.level route direction lateness = none) ∧
      (∀ (c : Nat) (x : Int), e.cutOff = some c → lateness = some x → x ≤ -(c : Int) →
        s.level route direction lateness = none) ∧
      (e.excluded = false → lateness = none → s.level route direction lateness = some (min 7 e.baseLevel)) ∧
      (∀ x : Int, e.excluded = false → lateness = some x → (∀ c ∈ e.cutOff, -(c : Int) < x) →
        s.level route direction lateness =
          some (min 7 (e.baseLevel + (e.late.filter (fun t => decide ((t : Int) ≤ x))).length))))

/-- A CHECK-IN for a vehicle with no record: CHECK_INS is counted; a refused level creates nothing and counts
REFUSED; a level creates a WAITING record in the lowest free slot, SUSPECT or CONFIRMED by the report, an evaluation event;
on a full table the same record is given to the choice of a victim. A CHECK-IN for a vehicle with a record: a suspect one
changes nothing; a clean one refreshes or moves a WAITING record, removes it as REFUSED when its level is refused, and
updates only the lateness and basis of a member. -/
def Obligations.CheckInHandled : Prop :=
  (∀ (s : State) (rep : Report) (ap : Fin 8), (∀ r : Fin 24, ∀ x ∈ s.record r, x.vehicle ≠ rep.vehicle) →
     let u := s.count (.approach ap .checkIns)
     let e := s.approach ap
     let eta := e.travel + (if rep.nearside then e.dwell else 0)
     (s.level rep.route rep.direction rep.lateness = none → s.takeCheckIn rep ap = u.count (.approach ap .refused)) ∧
     ∀ (v : Nat) (r : Fin 24), s.level rep.route rep.direction rep.lateness = some v → s.record r = none →
       (∀ q : Fin 24, q < r → (s.record q).isSome = true) →
       s.takeCheckIn rep ap = (u.setRecord r (some
         { vehicle := rep.vehicle, route := rep.route, direction := rep.direction, approach := ap
           basis := if rep.suspect then .suspect else .confirmed
           upstream := none, level := v, lateness := rep.lateness, state := .waiting, eta := eta
           lifetime := eta + s.params.checkInGrace, holdOff := none, retry := 0
           excluded := { extend := false, early := false, jump := false }
           callSlot := none, created := s.corridorTime })).markDue) ∧
  (∀ (s : State) (rep : Report) (ap : Fin 8) (v : Nat), (∀ r : Fin 24, ∀ x ∈ s.record r, x.vehicle ≠ rep.vehicle) →
     (∀ r : Fin 24, (s.record r).isSome = true) → s.level rep.route rep.direction rep.lateness = some v →
     let e := s.approach ap
     let eta := e.travel + (if rep.nearside then e.dwell else 0)
     s.takeCheckIn rep ap = (s.count (.approach ap .checkIns)).createOrDisplace
       { vehicle := rep.vehicle, route := rep.route, direction := rep.direction, approach := ap
         basis := if rep.suspect then .suspect else .confirmed
         upstream := none, level := v, lateness := rep.lateness, state := .waiting, eta := eta
         lifetime := eta + s.params.checkInGrace, holdOff := none, retry := 0
         excluded := { extend := false, early := false, jump := false }
         callSlot := none, created := s.corridorTime }) ∧
  ∀ (s : State) (rep : Report) (ap : Fin 8) (r : Fin 24) (x : Record), s.record r = some x → x.vehicle = rep.vehicle →
    (∀ q : Fin 24, q ≠ r → ∀ y ∈ s.record q, y.vehicle ≠ rep.vehicle) →
    let u := s.count (.approach ap .checkIns)
    let e := s.approach ap
    let eta := e.travel + (if rep.nearside then e.dwell else 0)
    let z := fun (v : Nat) =>
      { x with route := rep.route, direction := rep.direction, lateness := rep.lateness, level := v, eta := eta,
               lifetime := eta + s.params.checkInGrace, basis := Basis.confirmed }
    (rep.suspect = true → s.takeCheckIn rep ap = u) ∧
    (rep.suspect = false → x.state ≠ .waiting → s.takeCheckIn rep ap =
      u.setRecord r (some { x with lateness := rep.lateness, basis := .confirmed })) ∧
    (rep.suspect = false → x.state = .waiting → s.level rep.route rep.direction rep.lateness = none →
      s.takeCheckIn rep ap = (u.setRecord r none).count (.approach x.approach .refused)) ∧
    (∀ v, rep.suspect = false → x.state = .waiting → s.level rep.route rep.direction rep.lateness = some v →
      x.approach = ap → s.takeCheckIn rep ap = (u.setRecord r (some (z v))).markDue) ∧
    (∀ v, rep.suspect = false → x.state = .waiting → s.level rep.route rep.direction rep.lateness = some v →
      x.approach ≠ ap → s.takeCheckIn rep ap = (u.setRecord r (some
        { z v with approach := ap, retry := 0, holdOff := none,
                   excluded := { extend := false, early := false, jump := false } })).markDue)

/-- The victim of a full table: the WAITING FORECAST record of least lifetime, the lower slot of equals; with none, the
WAITING record of lowest level below the newcomer's, of equals the largest ETA, of equals the higher slot; with none, the
CHECK-IN is dropped. -/
def Obligations.FullTableVictim : Prop :=
  ∀ (s : State) (x : Record), (∀ r : Fin 24, (s.record r).isSome = true) →
    let forecast := fun (y : Record) => y.state = .waiting ∧ y.basis = .forecast
    let lower := fun (y : Record) => y.state = .waiting ∧ y.level < x.level
    let displaced := fun (r : Fin 24) (y : Record) =>
      (((s.setRecord r none).count (.approach y.approach .displaced)).setRecord r (some x)).markDue
    (∀ (r : Fin 24) (y : Record), s.record r = some y → forecast y →
      (∀ q : Fin 24, ∀ z ∈ s.record q, forecast z → y.lifetime < z.lifetime ∨ (y.lifetime = z.lifetime ∧ r ≤ q)) →
      s.createOrDisplace x = displaced r y) ∧
    (∀ (r : Fin 24) (y : Record), s.record r = some y → lower y → (∀ q : Fin 24, ∀ z ∈ s.record q, ¬ forecast z) →
      (∀ q : Fin 24, ∀ z ∈ s.record q, lower z →
        y.level < z.level ∨ (y.level = z.level ∧ (z.eta < y.eta ∨ (z.eta = y.eta ∧ q ≤ r)))) →
      s.createOrDisplace x = displaced r y) ∧
    ((∀ q : Fin 24, ∀ z ∈ s.record q, ¬ forecast z ∧ ¬ lower z) →
      s.createOrDisplace x = (s.count (.loc .reportsDroppedFull)).raise .tableFull)

/-- A CHECK-OUT is counted, removes the vehicle's record as SERVED from SERVING and as CLEARED otherwise, and when
clean asks for a notice; a clean CANCEL removes it as WITHDRAWN; a suspect CANCEL changes nothing. WITHDRAW
removes the vehicle's record as WITHDRAWN, or answers NOT_FOUND, or BAD_ARG for vehicle 0. -/
def Obligations.CheckOutCancelWithdraw : Prop :=
  (∀ (s : State) (rep : Report) (ap : Fin 8),
     let u := s.count (.approach ap .checkOuts)
     let notice := fun (v : State) =>
       if rep.suspect then v else v.sendNotice ap rep.vehicle rep.route rep.direction rep.lateness
     ((∀ r : Fin 24, ∀ x ∈ s.record r, x.vehicle ≠ rep.vehicle) →
       s.takeCheckOut rep ap = notice u ∧ s.takeCancel rep = s) ∧
     (rep.suspect = true → s.takeCancel rep = s) ∧
     ∀ (r : Fin 24) (x : Record), s.record r = some x → x.vehicle = rep.vehicle →
       (∀ q : Fin 24, q ≠ r → ∀ y ∈ s.record q, y.vehicle ≠ rep.vehicle) →
       (x.state = .serving → s.takeCheckOut rep ap = notice (u.removeRecord r .served .checkout)) ∧
       (x.state ≠ .serving → s.takeCheckOut rep ap = notice (u.removeRecord r .cleared .checkout)) ∧
       (rep.suspect = false → s.takeCancel rep = s.removeRecord r .withdrawn .withdraw)) ∧
  ∀ (s : State) (x : InboundFrame) (rest : List InboundFrame), RequestAtHead s x rest 0x08 →
    let u := afterTake s rest
    let b := x.frame.body
    (3 ≤ b.length → word16At b 1 ≠ 0 → (∀ r : Fin 24, ∀ y ∈ s.record r, y.vehicle ≠ word16At b 1) →
      exec .withdraw s = .next (answered u x (.plain .notFound))) ∧
    (∀ (r : Fin 24) (y : Record), 3 ≤ b.length → s.record r = some y → y.vehicle = word16At b 1 → y.vehicle ≠ 0 →
      (∀ q : Fin 24, q < r → ∀ z ∈ s.record q, z.vehicle ≠ word16At b 1) →
      exec .withdraw s = .next (answered (u.removeRecord r .withdrawn .withdraw) x (.plain .done))) ∧
    (b.length < 3 ∨ word16At b 1 = 0 → exec .withdraw s = .next (answered u x (.plain .badArg)))

/-- A removal frees the record's slot and counts its outcome on its approach; a member leaves its slot, the others
keep their order; the last member's leaving closes an open slot, with a CANCEL, or a RELEASE from SERVING.
ETA_EXPIRY leaves the ETA at 0 and nothing else changed; LIFETIME_EXPIRY removes the record as EXPIRED;
HOLD_OFF_EXPIRY makes the hold-off absent, an evaluation event. Each of the three acts whatever tenths are left (the model's
choice, log 3). -/
def Obligations.RemovalAndRecordTimers : Prop :=
  (∀ (s : State) (r : Fin 24) (x : Record) (outcome : ApproachCounter) (cause : CloseCause), s.record r = some x →
     let u := (s.setRecord r none).count (.approach x.approach outcome)
     (x.callSlot = none → s.removeRecord r outcome cause = u) ∧
     ∀ k : Fin 4, x.callSlot = some k →
       let y := s.slot k
       let others := y.members.filter (fun m => m ≠ r)
       (others ≠ [] → s.removeRecord r outcome cause = u.setSlot k { y with members := others }) ∧
       (others = [] → y.state.isOpen = true → s.removeRecord r outcome cause = u.closeSlot k cause) ∧
       (y.state.isOpen = true →
         let closing : CallSlot := { y with state := .closing, cause := some cause, members := []
                                            wasServing := y.wasServing || decide (y.state = .serving) }
         let giveUp : CtrlMessage := { kind := if y.state = .serving then .release else .cancel, call := y.call.getD 0
                                       group := (y.approach.map (fun ap => (s.approach ap).phaseGroup)).getD 0
                                       code := none, duration := 0 }
         let response : SlotTimer := { kind := .response, left := s.params.responseTimeout }
         u.closeSlot k cause = { u with slots := u.slots.set k closing, output := u.output ++ [giveUp]
                                        slotTimers := u.slotTimers.set k (some response) }.markDue)) ∧
  ∀ (s : State) (r : Fin 24) (x : Record), s.record r = some x →
    exec (.etaExpiry r) s = .next (s.setRecord r (some { x with eta := 0 })).endEvent ∧
    exec (.lifetimeExpiry r) s = .next (s.removeRecord r .expired .expired).endEvent ∧
    (x.holdOff.isSome = true → exec (.holdOffExpiry r) s =
      .next (s.setRecord r (some { x with holdOff := none })).markDue.endEvent)

/-- A notice at a clean CHECK-OUT: none for direction none; else composed with the downstream address and travel time and
queued on an ENABLED, not SILENT port with 2 units free, counted NOTICES_SENT; else NOTICES_UNSENT and NOTICE_UNSENT. -/
def Obligations.NoticeQueuedOrUnsent : Prop :=
  ∀ (s : State) (ap : Fin 8) (vehicle route : Nat) (direction : Bool) (lateness : Option Int),
    let e := s.approach ap
    let sent := s.sendNotice ap vehicle route direction lateness
    let f : LinkFrame :=
      { dest := byteOf (e.downAddress.getD 0), source := s.address.setWidth 8, kind := 0x04, hop := 63, tag := 0
        body := bytes16 vehicle ++ bytes16 (route * 4 + (if direction then 2 else 0))
          ++ [match lateness with | none => 0x80 | some x => BitVec.ofInt 8 x] ++ bytes16 e.downTravel }
    (e.downDirection = none → sent = s) ∧
    ∀ p : Port, e.downDirection = some p →
      f.units = 2 ∧ f.length = 15 ∧
      ((s.port p).mode = .enabled → (s.port p).silent = false → usedUnits (s.port p).queue + 2 ≤ s.partition p →
        sent = (s.setQueue p ((s.port p).queue ++ [{ frame := f, ownAlert := false }])).count (.notice .noticesSent)) ∧
      ((s.port p).mode ≠ .enabled ∨ (s.port p).silent = true ∨ s.partition p < usedUnits (s.port p).queue + 2 →
        sent = (s.count (.notice .noticesUnsent)).raise .noticeUnsent)

/-- NOTICE_RECEIVE: discarded but in ACTIVE; there an invalid or unmapped notice is counted NOTICES_UNMAPPED, a mapped one
NOTICES_IN, and it creates a FORECAST record, is refused or dropped, corroborates a SUSPECT record or comes late. -/
def Obligations.NoticeTaken : Prop :=
  ∀ (s : State) (x : InboundFrame) (rest : List InboundFrame), s.inbound = x :: rest → x.frame.kind = 0x04 →
    let u := afterTake s rest
    let b := x.frame.body
    let vehicle := word16At b 0
    let route := word16At b 2 / 4
    let direction := decide (word16At b 2 / 2 % 2 = 1)
    let late := if byteAt b 4 = 128 then none else some (BitVec.ofNat 8 (byteAt b 4)).toInt
    let travel := word16At b 5
    let source := x.frame.source.toNat % 64
    let valid := 7 ≤ b.length ∧ vehicle ≠ 0 ∧ 1 ≤ route ∧ route ≤ 9999 ∧ 50 ≤ travel ∧ travel ≤ 3000
    (s.mode ≠ .active → exec .noticeReceive s = .next u.endEvent) ∧
    (s.mode = .active → ¬ valid → exec .noticeReceive s = .next (u.count (.notice .noticesUnmapped)).endEvent) ∧
    (s.mode = .active → (∀ q ∈ s.params.noticeMap, q.1 = source → (s.approach q.2).inUse = false) →
      exec .noticeReceive s = .next (u.count (.notice .noticesUnmapped)).endEvent) ∧
    ∀ ap : Fin 8, s.mode = .active → valid → s.params.noticeMap.find? (fun q => q.1 = source) = some (source, ap) →
      (s.approach ap).inUse = true →
      let v := u.count (.approach ap .noticesIn)
      ((∀ r : Fin 24, ∀ y ∈ s.record r, y.vehicle ≠ vehicle) →
        (s.level route direction late = none →
          exec .noticeReceive s = .next (v.count (.approach ap .refused)).endEvent) ∧
        (∀ n, s.level route direction late = some n → (∀ r : Fin 24, (s.record r).isSome = true) →
          exec .noticeReceive s = .next ((v.count (.loc .reportsDroppedFull)).raise .tableFull).endEvent) ∧
        (∀ n (r : Fin 24), s.level route direction late = some n → s.record r = none →
          (∀ q : Fin 24, q < r → (s.record q).isSome = true) →
          exec .noticeReceive s = .next (v.setRecord r (some
            { vehicle := vehicle, route := route, direction := direction, approach := ap, basis := .forecast
              upstream := some source, level := n, lateness := late, state := .waiting, eta := travel
              lifetime := travel + s.params.noticeGrace, holdOff := none, retry := 0
              excluded := { extend := false, early := false, jump := false }
              callSlot := none, created := s.corridorTime })).markDue.endEvent)) ∧
      ∀ (r : Fin 24) (y : Record), s.record r = some y → y.vehicle = vehicle →
        (∀ q : Fin 24, q ≠ r → ∀ z ∈ s.record q, z.vehicle ≠ vehicle) →
        (y.basis = .suspect → exec .noticeReceive s = .next (v.setRecord r (some
          { y with basis := .confirmed, upstream := some source })).markDue.endEvent) ∧
        (y.basis ≠ .suspect → exec .noticeReceive s = .next (v.count (.notice .noticesLate)).endEvent)

/-! ### The call arbiter -/

/-- EVALUATION: with the mark set in ACTIVE the mark is cleared and the three parts are made in order; otherwise
nothing. The mark is set in ACTIVE alone. A kind is chosen by the green set among those the record is eligible
for. The candidates are the WAITING records, each once, by level highest first, CONFIRMED first, ETA least
first, rank highest first, slot lowest first. -/
def Obligations.EvaluationTakenInOrder : Prop :=
  ((∀ s : State, s.mode = .active → s.evalDue = true →
     exec .evaluation s = .next (State.opening 4 (State.joining { s with evalDue := false })).preemption.endEvent) ∧
   (∀ s : State, s.mode ≠ .active ∨ s.evalDue = false → exec .evaluation s = .next s) ∧
   (∀ s : State, (s.mode = .active → s.markDue = { s with evalDue := true }) ∧ (s.mode ≠ .active → s.markDue = s)) ∧
   ∀ (s : State) (x : Record),
     let e := s.approach x.approach
     let can := fun (k : ServiceKind) =>
       x.state = .waiting ∧ e.kinds.has k = true ∧ x.excluded.has k = false ∧ x.holdOff = none ∧
         s.lockout x.approach = none ∧ ((x.basis = .confirmed ∧ s.params.floor ≤ x.level) ∨ k = .extend) ∧
         (x.basis = .forecast → x.eta ≤ e.extension)
     let green := e.phaseGroup ≠ 0 ∧ s.controller.greenSet.getLsbD (e.phaseGroup - 1) = true
     (∀ k, s.eligible x k = true ↔ can k) ∧
     (s.chosenKind x = some .extend ↔ s.controller.phaseKnown = true ∧ green ∧ can .extend) ∧
     (s.chosenKind x = some .early ↔ s.controller.phaseKnown = true ∧ ¬ green ∧ can .early) ∧
     (s.chosenKind x = some .jump ↔ s.controller.phaseKnown = true ∧ ¬ green ∧ ¬ can .early ∧ can .jump)) ∧
  ∀ s : State,
    (∀ r : Fin 24, r ∈ s.candidates ↔ ∃ x, s.record r = some x ∧ x.state = .waiting) ∧ s.candidates.Nodup ∧
    s.candidates.Pairwise (fun r q => ∀ x ∈ s.record r, ∀ y ∈ s.record q,
      let c := fun (z : Record) => if z.basis = .confirmed then 0 else 1
      let rank := fun (z : Record) => (s.approach z.approach).rank
      y.level < x.level ∨ (y.level = x.level ∧ (c x < c y ∨ (c x = c y ∧ (x.eta < y.eta ∨ (x.eta = y.eta ∧
        (rank y < rank x ∨ (rank y = rank x ∧ r < q))))))))

/-- Joining takes the candidates in order; a WAITING record eligible for the kind of the open slot that holds its approach
joins at the tail of its members. Openings are made one at a time while one can be made, and none can be made after the
last. An opening is made exactly while the controller is open, fewer slots than the window are in use and some candidate
can have a slot: for the first such candidate, with the lowest IDLE slot and the first free number from the pointer upward,
wrapping from 15 to 1; the candidate is CALLED, the CALL is placed, CALLS counted, and the other WAITING records on the
approach join in candidate order. -/
def Obligations.JoinsAndOpeningsMadeInOrder : Prop :=
  (∀ s : State, s.joining = s.candidates.foldl (fun t r => t.tryJoin r) s) ∧
  (∀ (s : State) (r : Fin 24),
    (s.record r = none → s.tryJoin r = s) ∧
    ∀ x, s.record r = some x →
      ((∀ k : Fin 4, (s.slot k).state.isOpen = true → (s.slot k).approach ≠ some x.approach) → s.tryJoin r = s) ∧
      ∀ (k : Fin 4) (kind : ServiceKind), (s.slot k).state.isOpen = true → (s.slot k).approach = some x.approach →
        (s.slot k).kind = some kind →
        (∀ j : Fin 4, j < k → (s.slot j).state.isOpen = true → (s.slot j).approach ≠ some x.approach) →
        (s.eligible x kind = false → s.tryJoin r = s) ∧
        (s.eligible x kind = true → s.tryJoin r =
          { s with
            slots := s.slots.set k { s.slot k with members := (s.slot k).members ++ [r] }
            records := s.records.set r
              (some { x with callSlot := some k, state := (s.slot k).state.memberState }) })) ∧
  (∀ (s : State) (n : Nat), State.opening 0 s = s ∧ (s.openNext = none → State.opening (n + 1) s = s) ∧
    ∀ t, s.openNext = some t → State.opening (n + 1) s = State.opening n t) ∧
  (∀ s : State, (State.opening 4 s).openNext = none) ∧
  ∀ s : State,
    let inUse := (List.finRange 4).countP (fun k => decide ((s.slot k).state ≠ .idle))
    let controllerOpen := s.controller.ready = .ready ∧ s.controller.unresponsive = false ∧ s.controller.phaseKnown = true
    let can := fun (r : Fin 24) => ∃ x ∈ s.record r, (s.chosenKind x).isSome = true ∧
      ∀ j : Fin 4, (s.slot j).state ≠ .idle → ∀ y ∈ (s.slot j).approach, y ≠ x.approach ∧ s.conflict x.approach y = false
    ((¬ controllerOpen ∨ s.params.window ≤ inUse ∨ ∀ r ∈ s.candidates, ¬ can r) → s.openNext = none) ∧
    ∀ (earlier later : List (Fin 24)) (r : Fin 24) (x : Record) (kind : ServiceKind) (k : Fin 4) (m : Nat),
      controllerOpen → inUse < s.params.window → s.candidates = earlier ++ r :: later → (∀ q ∈ earlier, ¬ can q) →
      can r → s.record r = some x → s.chosenKind x = some kind →
      (s.slot k).state = .idle → (∀ j : Fin 4, j < k → (s.slot j).state ≠ .idle) →
      let number := fun (i : Nat) => (s.nextCall - 1 + i) % 15 + 1
      let given := fun (n : Nat) => ∃ j : Fin 4, (s.slot j).state ≠ .idle ∧ (s.slot j).call = some n
      1 ≤ s.nextCall → s.nextCall ≤ 15 → m < 15 → (∀ i < m, given (number i)) → ¬ given (number m) →
      let e := s.approach x.approach
      let duration := match kind with
        | .extend => e.extension
        | .early => e.earlyDuration
        | .jump => e.jumpDuration
      let y : CallSlot := { state := .called, call := some (number m), approach := some x.approach, kind := some kind
                            duration := some duration, members := [r], cause := none, wasServing := false }
      let call : CtrlMessage := { kind := .call, call := number m, group := e.phaseGroup, code := some kind
                                  duration := duration }
      let response : SlotTimer := { kind := .response, left := s.params.responseTimeout }
      let u := { s with nextCall := number m % 15 + 1, slots := s.slots.set k y
                        records := s.records.set r (some { x with state := .called, callSlot := some k })
                        output := s.output ++ [call], slotTimers := s.slotTimers.set k (some response) }
      let v := (u.count (.approach x.approach .calls)).markDue
      s.openNext = some ((v.candidates.filter (fun q => (v.record q).any (fun z => z.approach = x.approach))).foldl
        (fun t q => t.tryJoin q) v)

/-- Opening: only while fewer slots than the window are non-IDLE, the ready line reads READY, the controller is not
UNRESPONSIVE and the status is KNOWN; for a candidate with a kind chosen whose approach no non-IDLE slot holds or
conflicts with; the lowest IDLE slot takes a free number, and the CALL is placed. -/
def Obligations.OpeningSetsSlot : Prop :=
  ∀ s t : State, s.openNext = some t →
    s.slotsInUse < s.params.window ∧ s.controller.ready = .ready ∧ s.controller.unresponsive = false ∧
      s.controller.phaseKnown = true ∧
    ∃ (r : Fin 24) (x : Record) (kind : ServiceKind) (k : Fin 4) (n : Nat),
      s.record r = some x ∧ x.state = .waiting ∧ s.chosenKind x = some kind ∧
      (∀ j : Fin 4, (s.slot j).state ≠ .idle → ∀ y ∈ (s.slot j).approach,
        y ≠ x.approach ∧ s.conflict x.approach y = false) ∧
      (s.slot k).state = .idle ∧ (∀ j : Fin 4, j < k → (s.slot j).state ≠ .idle) ∧
      (∀ j : Fin 4, (s.slot j).state ≠ .idle → (s.slot j).call ≠ some n) ∧
      ((∀ j : Fin 4, (s.slot j).state ≠ .idle → (s.slot j).call ≠ some s.nextCall) → n = s.nextCall) ∧
      (t.slot k).state = .called ∧ (t.slot k).call = some n ∧ (t.slot k).approach = some x.approach ∧
      (t.slot k).kind = some kind ∧
      (t.slot k).duration = some (match kind with
        | .extend => (s.approach x.approach).extension
        | .early => (s.approach x.approach).earlyDuration
        | .jump => (s.approach x.approach).jumpDuration) ∧
      (t.slot k).members.head? = some r ∧ (t.slot k).cause = none ∧ (t.slot k).wasServing = false ∧
      (∀ j : Fin 4, j ≠ k → t.slot j = s.slot j) ∧
      t.nextCall = (if 15 ≤ n then 1 else n + 1) ∧
      t.output = s.output ++ [{ kind := .call, call := n, group := (s.approach x.approach).phaseGroup,
                                code := some kind, duration := (t.slot k).duration.getD 0 }] ∧
      t.slotTimer k = some { kind := .response, left := s.params.responseTimeout } ∧
      t.counters.get (.approach x.approach .calls) = s.counters.get (.approach x.approach .calls) + 1

/-- No command places a CALL while the ready line reads BUSY, the controller is UNRESPONSIVE or the phase status is
UNKNOWN. -/
def Obligations.NoCallWhileControllerClosed : Prop :=
  ∀ (c : Instr) (s t : State), exec c s = .next t →
    s.controller.ready = .busy ∨ s.controller.unresponsive = true ∨ s.controller.phaseKnown = false →
    (t.output.filter (fun m => m.kind = .call)).length ≤ (s.output.filter (fun m => m.kind = .call)).length

/-- A preempted slot goes to CLOSING with cause PREEMPT, its members return, PREEMPTIONS is counted; the slots are taken in
ascending order. Slots are preempted only for a leading candidate blocked by conflicts alone, when every conflicting slot is
not CLOSING and holds no member above the candidate's level less the margin; and then every conflicting slot is. -/
def Obligations.PreemptionClosesSlots : Prop :=
  (∀ (s : State) (k : Fin 4) (ap : Fin 8), (s.slot k).approach = some ap →
    s.preemptSlot k = ((s.closeSlot k .preempt).returnMembers (s.slot k).members none none).count
      (.approach ap .preemptions)) ∧
  (∀ s : State, s.preemption = s.preempted.foldl (fun t k => t.preemptSlot k) s) ∧
  (∀ (s : State) (r : Fin 24) (x : Record),
    let conflicting := fun (j : Fin 4) =>
      decide ((s.slot j).state ≠ .idle) && (s.slot j).approach.any (fun y => s.conflict x.approach y)
    s.params.margin ≠ 0 → s.controller.ready = .ready → s.controller.unresponsive = false →
    s.controller.phaseKnown = true →
    s.candidates.find? (fun q => (s.record q).any (fun z => (s.chosenKind z).isSome)) = some r → s.record r = some x →
    (∀ j : Fin 4, (s.slot j).state ≠ .idle → (s.slot j).approach ≠ some x.approach) →
    (∀ j : Fin 4, conflicting j = true → (s.slot j).state ≠ .closing ∧
      ∀ m ∈ (s.slot j).members, ∀ z ∈ s.record m, z.level + s.params.margin ≤ x.level) →
    s.preempted = (List.finRange 4).filter conflicting) ∧
  ∀ (s : State) (k : Fin 4), k ∈ s.preempted →
    s.params.margin ≠ 0 ∧ s.controller.ready = .ready ∧ s.controller.unresponsive = false ∧
      s.controller.phaseKnown = true ∧
    ∃ (r : Fin 24) (x : Record), s.record r = some x ∧ (s.chosenKind x).isSome = true ∧
      s.candidates.find? (fun q => (s.record q).any (fun z => (s.chosenKind z).isSome)) = some r ∧
      (∀ j : Fin 4, (s.slot j).state ≠ .idle → (s.slot j).approach ≠ some x.approach) ∧
      (∀ j : Fin 4, j ∈ s.preempted ↔
        (s.slot j).state ≠ .idle ∧ ∃ y, (s.slot j).approach = some y ∧ s.conflict x.approach y = true) ∧
      (s.slot k).state ≠ .closing ∧
      ∀ m ∈ (s.slot k).members, ∀ z ∈ s.record m, z.level + s.params.margin ≤ x.level

/-! ### The phase port -/

/-- Events of the phase port and the arbiter that name no slot: READY_LINE_CHANGE, PHASES, PHASE_AGE_EXPIRY,
LOCKOUT_EXPIRY, MESSAGE_START, INVALID_MESSAGE, MESSAGE_CUT_OFF, MESSAGE_TX_END. LOCKOUT_EXPIRY acts whatever is left of the
lockout and PHASE_AGE_EXPIRY whatever the age (the model's choice, log 3). The characters that do not end a message come
with its start or end (the model's choice, log 8). -/
def Obligations.ControllerStatusEvents : Prop :=
  ∀ s : State,
    (∀ level, s.controller.ready ≠ level → exec (.readyLineChange level) s =
      .next { s with controller := { s.controller with ready := level } }.markDue.endEvent) ∧
    (∀ chars green, s.messageFrom chars = some (.phases green) → exec (.phases chars) s =
      .next { s with msgReceiver := .hunt
                     controller := { s.controller with unresponsive := false, timeoutCount := 0, phaseKnown := true
                                                       greenSet := green, phaseAge := 0 } }.markDue.endEvent) ∧
    (s.controller.phaseKnown = true → exec .phaseAgeExpiry s =
      .next (State.raise { s with controller := { s.controller with phaseKnown := false, phaseAge := 30 } }
        .phaseStatusLost).markDue.endEvent) ∧
    (∀ ap : Fin 8, (s.lockout ap).isSome = true →
      exec (.lockoutExpiry ap) s = .next (s.setLockout ap none).markDue.endEvent) ∧
    (s.msgReceiver = .hunt → exec (.messageStart []) s =
      .next { s with msgReceiver := .collect [0xA5] false }.endEvent) ∧
    (∀ more r, s.msgReceiver = .hunt → runChars MsgReceiver.char (.collect [0xA5] false) more = .going r →
      exec (.messageStart more) s = .next { s with msgReceiver := r }.endEvent) ∧
    (∀ chars, s.messageFrom chars = some .invalid → exec (.invalidMessage chars) s =
      .next (State.count { s with msgReceiver := .hunt } (.controller .badMessages)).endEvent) ∧
    (∀ got damaged, s.msgReceiver = .collect got damaged → exec .messageCutOff s =
      .next (State.count { s with msgReceiver := .hunt } (.controller .badMessages)).endEvent) ∧
    (∀ m rest, s.output = m :: rest → exec .messageTxEnd s = .next { s with output := rest }.endEvent)

/-- What a valid message clears first, and the slot it is matched to by its call number alone; without one it is stray, and
so are the messages a slot's state gives no part. -/
def Obligations.StrayMessagesAreCounted : Prop :=
  ∀ (s : State) (chars : List SerialChar) (n : Nat),
    let v := { s with msgReceiver := MsgReceiver.hunt
                      controller := { s.controller with unresponsive := false, timeoutCount := 0 } }
    let u := if s.controller.unresponsive then v.markDue else v
    let stray := u.count (.controller .strayMessages)
    let unheld := n < 1 ∨ 15 < n ∨ ∀ k : Fin 4, (s.slot k).state ≠ .idle → (s.slot k).call ≠ some n
    let only := fun (k : Fin 4) => 1 ≤ n ∧ n ≤ 15 ∧ (s.slot k).call = some n ∧
      ∀ j : Fin 4, j ≠ k → (s.slot j).state ≠ .idle → (s.slot j).call ≠ some n
    (s.messageFrom chars = some (.accept n) → (unheld ∨ ∃ k, only k ∧
      ((s.slot k).state = .granted ∨ (s.slot k).state = .serving ∨ (s.slot k).state = .closing)) →
      exec (.accept chars) s = .next stray.endEvent) ∧
    (s.messageFrom chars = some (.start n) → (unheld ∨ ∃ k, only k ∧
      ((s.slot k).state = .serving ∨ (s.slot k).state = .closing)) →
      exec (.start chars) s = .next stray.endEvent) ∧
    (∀ reason, s.messageFrom chars = some (.deny n reason) → (unheld ∨ ∃ k, only k ∧
      ((s.slot k).state = .serving ∨ (s.slot k).state = .closing)) →
      exec (.deny chars) s = .next stray.endEvent) ∧
    (∀ reason, s.messageFrom chars = some (.endService n reason) → unheld →
      exec (.endService chars) s = .next stray.endEvent)

/-- ACCEPT and START for the slot that holds the call number: GRANTED with START_LIMIT, SERVING with SERVICE_LIMIT; a
START in CALLED counts ACCEPTS and goes straight to SERVING. Each member's state changes with the slot's. DENY and END for
the slot that holds the call number, by the slot's state and the reason. -/
def Obligations.SlotMessagesAdvanceOrFree : Prop :=
  (∀ (s : State) (chars : List SerialChar) (n : Nat) (k : Fin 4) (ap : Fin 8) (d : Nat), s.slotOfCall n = some k →
     (s.slot k).approach = some ap → (s.slot k).duration = some d →
     let v := { s with msgReceiver := MsgReceiver.hunt
                       controller := { s.controller with unresponsive := false, timeoutCount := 0 } }
     let u := if s.controller.unresponsive then v.markDue else v
     let granted : SlotTimer := { kind := .startLimit, left := s.params.startLimit }
     let served : SlotTimer := { kind := .serviceLimit, left := d + 50 }
     (s.messageFrom chars = some (.accept n) → (s.slot k).state = .called → exec (.accept chars) s =
       .next (((u.count (.approach ap .accepts)).setSlotTimer k (some granted)).advanceSlot k .granted).endEvent) ∧
     (s.messageFrom chars = some (.start n) → (s.slot k).state = .granted → exec (.start chars) s =
       .next ((u.setSlotTimer k (some served)).advanceSlot k .serving).endEvent) ∧
     (s.messageFrom chars = some (.start n) → (s.slot k).state = .called → exec (.start chars) s =
       .next (((u.count (.approach ap .accepts)).setSlotTimer k (some served)).advanceSlot k .serving).endEvent) ∧
     ∀ (t : State) (st : SlotState), t.slots = s.slots →
       let w := t.advanceSlot k st
       w = { t with slots := t.slots.set k { s.slot k with state := st }, records := w.records
                    evalDue := t.markDue.evalDue } ∧
       ∀ r : Fin 24, w.record r = if r ∈ (s.slot k).members then
           (t.record r).map (fun x => { x with state := st.memberState }) else t.record r) ∧
  ∀ (s : State) (chars : List SerialChar) (n : Nat) (k : Fin 4) (ap : Fin 8), s.slotOfCall n = some k →
    (s.slot k).approach = some ap →
    let v := { s with msgReceiver := MsgReceiver.hunt
                      controller := { s.controller with unresponsive := false, timeoutCount := 0 } }
    let u := if s.controller.unresponsive then v.markDue else v
    let ms := (s.slot k).members
    let denied := fun (kind : Option ServiceKind) =>
      (((u.count (.approach ap .denies)).idleSlot k).returnMembers ms (some s.params.denyHoldOff) kind)
    let early := (s.slot k).state = .called ∨ (s.slot k).state = .granted
    let ended := ((u.setSlot k { s.slot k with wasServing := true }).idleSlot k).returnMembers ms none none
    (s.messageFrom chars = some (.deny n .notNow) → early →
      exec (.deny chars) s = .next (denied none).endEvent) ∧
    (s.messageFrom chars = some (.deny n .never) → early →
      exec (.deny chars) s = .next (denied (s.slot k).kind).endEvent) ∧
    (∀ reason, s.messageFrom chars = some (.endService n reason) →
      (early → exec (.endService chars) s = .next (denied none).endEvent) ∧
      ((s.slot k).state = .serving → reason = .normal → exec (.endService chars) s = .next ended.endEvent) ∧
      ((s.slot k).state = .serving → reason ≠ .normal → exec (.endService chars) s =
        .next ((ended.count (.approach ap .overrides)).raise .serviceOverride).endEvent) ∧
      ((s.slot k).state = .closing → exec (.endService chars) s = .next (u.idleSlot k).endEvent))

/-- A slot's return to IDLE, and its members' to WAITING: the lockout starts when was serving is set; the members return one
by one in member-list order, and for each the retry count rises, at 3 the record is removed as ABANDONED, else it gains the
kind excluded and the hold-off carried. -/
def Obligations.SlotIdlesAndMembersReturn : Prop :=
  (∀ (s : State) (k : Fin 4),
    let x := s.slot k
    let cleared := fun (u : State) =>
      { u with slots := u.slots.set k { state := .idle, call := none, approach := none, kind := none, duration := none
                                        members := [], cause := none, wasServing := false }
               slotTimers := u.slotTimers.set k none }.markDue
    (x.wasServing = false → s.idleSlot k = cleared s) ∧
    (∀ ap, x.wasServing = true → x.approach = some ap → (s.approach ap).lockout ≠ 0 →
      s.idleSlot k = cleared (s.setLockout ap (some (s.approach ap).lockout))) ∧
    (∀ ap, x.wasServing = true → x.approach = some ap → (s.approach ap).lockout = 0 →
      s.idleSlot k = cleared (s.setLockout ap none))) ∧
  (∀ (s : State) (holdOff : Option Nat) (exclude : Option ServiceKind) (r : Fin 24) (ms : List (Fin 24)),
    s.returnMembers [] holdOff exclude = s ∧
    s.returnMembers (r :: ms) holdOff exclude = (s.returnMember holdOff exclude r).returnMembers ms holdOff exclude ∧
    (s.record r = none → s.returnMember holdOff exclude r = s)) ∧
  ∀ (s : State) (holdOff : Option Nat) (exclude : Option ServiceKind) (r : Fin 24) (x : Record), s.record r = some x →
    let y := { x with state := RecordState.waiting, callSlot := none, retry := x.retry + 1 }
    (2 ≤ x.retry → s.returnMember holdOff exclude r =
      (s.setRecord r none).count (.approach x.approach .abandoned)) ∧
    (x.retry < 2 → ∃ z, s.returnMember holdOff exclude r = s.setRecord r (some z) ∧
      z = { y with excluded := z.excluded, holdOff := z.holdOff } ∧
      z.excluded = (match exclude with | none => x.excluded | some kind => x.excluded.add kind) ∧
      z.holdOff = (match holdOff with | none => x.holdOff | some 0 => none | some (n + 1) => some (n + 1)))

/-- The slot timers run out: the slot closes with its cause, or a CLOSING one goes to IDLE; a response timeout counts
TIMEOUTS and raises the consecutive-timeout count, at 3 UNRESPONSIVE with its count and condition. An expiry acts on its
running timer whatever tenths are left (the model's choice, log 3). -/
def Obligations.SlotTimersRunOut : Prop :=
  (∀ (s : State) (k : Fin 4) (left : Nat),
    let closed := fun (cause : CloseCause) => (s.closeSlot k cause).returnMembers (s.slot k).members none none
    (s.slotTimer k = some { kind := .response, left := left } → (s.slot k).state = .called →
      exec (.responseTimeout k) s = .next (closed .timeout).responseMissed.endEvent) ∧
    (s.slotTimer k = some { kind := .response, left := left } → (s.slot k).state = .closing →
      exec (.responseTimeout k) s = .next (s.idleSlot k).responseMissed.endEvent) ∧
    (s.slotTimer k = some { kind := .startLimit, left := left } → (s.slot k).state = .granted →
      exec (.startLimitExpiry k) s = .next (closed .startLimit).endEvent) ∧
    (s.slotTimer k = some { kind := .serviceLimit, left := left } → (s.slot k).state = .serving →
      exec (.serviceLimitExpiry k) s = .next (closed .serviceLimit).endEvent)) ∧
  ∀ s : State,
    let v := s.count (.controller .timeouts)
    let rise := fun (n : Nat) (b : Bool) =>
      { v with controller := { s.controller with timeoutCount := n, unresponsive := b } }
    (s.controller.timeoutCount < 2 → s.responseMissed = rise (s.controller.timeoutCount + 1) s.controller.unresponsive) ∧
    (2 ≤ s.controller.timeoutCount → s.controller.unresponsive = true → s.responseMissed = rise 3 true) ∧
    (2 ≤ s.controller.timeoutCount → s.controller.unresponsive = false → s.responseMissed =
      (((rise 3 true).count (.controller .unresponsiveEntries)).raise .controllerUnresponsive).markDue)

/-! ### The local frame handler and the management unit -/

/-- TIME, UNKNOWN_KIND and CORRIDOR_TIME_WRAP (which carries no guard: the model's choice, log 19). Every request
is answered by one REPLY on the port it came in on, with its tag, code and status: appended when it fits, else dropped and
counted, its effects kept. A request with an unknown or missing code is answered UNKNOWN_REQUEST. -/
def Obligations.HandlerTakesFramesAndReplies : Prop :=
  ((∀ (s : State) (x : InboundFrame) (rest : List InboundFrame), s.inbound = x :: rest →
     let u := afterTake s rest
     let b := x.frame.body
     (x.frame.kind = 0x03 → b.length = 3 → word24At b 0 ≤ 863999 →
       exec .time s = .next { u with corridorTime := word24At b 0, timeSet := true }.endEvent) ∧
     (x.frame.kind = 0x03 → (b.length ≠ 3 ∨ 863999 < word24At b 0) → exec .time s = .next u.endEvent) ∧
     (6 ≤ x.frame.kind.toNat → exec .unknownKind s = .next (u.count (.loc .unknownKind)).endEvent)) ∧
   ∀ s : State, exec .corridorTimeWrap s = .next { s with corridorTime := 0 }.endEvent) ∧
  (∀ (u : State) (x : InboundFrame) (a : Answer),
    let f : LinkFrame :=
      { dest := 0, source := u.address.setWidth 8, kind := 0x06, hop := 63, tag := x.frame.tag
        body := byteOf (byteAt x.frame.body 0) :: byteOf a.status.value :: a.results }
    (f.units + usedUnits (u.port x.port).queue ≤ u.partition x.port →
      u.reply x a = u.setQueue x.port ((u.port x.port).queue ++ [{ frame := f, ownAlert := false }])) ∧
    (u.partition x.port < f.units + usedUnits (u.port x.port).queue →
      u.reply x a = u.count (.loc .repliesDropped))) ∧
  ∀ (s : State) (x : InboundFrame) (rest : List InboundFrame) (code : Nat), RequestAtHead s x rest code →
    code = 0 ∨ 14 < code →
    exec .unknownRequest s = .next (answered (afterTake s rest) x { status := .unknownRequest, results := [] })

/-- The reads that change nothing beyond their take and REPLY: IDENTIFY, READ STATUS, READ TABLE, READ RECORDS and READ
SLOTS, each with its results or BAD_ARG. -/
def Obligations.ReadsAnswerAndKeepState : Prop :=
  ∀ (s : State) (x : InboundFrame) (rest : List InboundFrame),
    let u := afterTake s rest
    let b := x.frame.body
    let leaf := byteAt b 1
    (RequestAtHead s x rest 0x01 → 2 ≤ b.length →
      (leaf = 0 → exec .identify s = .next (answered u x (.doneWith [0, 3, 0x53, 0x4C, 0x50, 0x52]))) ∧
      (leaf = 1 → exec .identify s = .next (answered u x (.doneWith [1, 0x28, 1, 8, 8, 24, 4, 64]))) ∧
      (leaf = 2 → exec .identify s = .next (answered u x (.doneWith
        ([2, s.address.setWidth 8, s.rawStraps.setWidth 8, byteOf s.mode.code, if s.timeSet then 1 else 0]
          ++ bytes24 s.corridorTime)))) ∧
      (leaf = 3 → exec .identify s = .next (answered u x (.doneWith
        (3 :: bytes16 s.tableGens.approach.toNat ++ bytes16 s.tableGens.route.toNat
          ++ bytes16 s.tableGens.conflicts.toNat ++ bytes16 s.tableGens.params.toNat)))) ∧
      (3 < leaf → exec .identify s = .next (answered u x (.plain .badArg)))) ∧
    (RequestAtHead s x rest 0x02 →
      exec .readStatus s = .next (answered u x (.doneWith u.statusBytes)) ∧ u.statusBytes.length = 25 ∧
      u.statusBytes.head? = some (byteOf s.mode.code) ∧ u.statusBytes.getLast? = some (byteOf rest.length)) ∧
    (RequestAtHead s x rest 0x03 → ∀ t : Table, 4 ≤ b.length → byteAt b 1 = t.code →
      (byteAt b 2 ≤ t.lastIndex → 1 ≤ byteAt b 3 → byteAt b 3 ≤ t.maxCount →
        exec .readTable s = .next (answered u x (.doneWith (u.tableResults t (byteAt b 2) (byteAt b 3))))) ∧
      (t.lastIndex < byteAt b 2 ∨ byteAt b 3 = 0 ∨ t.maxCount < byteAt b 3 →
        exec .readTable s = .next (answered u x (.plain .badArg)))) ∧
    (RequestAtHead s x rest 0x06 → 2 ≤ b.length →
      (byteAt b 1 ≤ 23 → exec .readRecords s = .next (answered u x (.doneWith
        ([byteOf s.occupied, byteOf (min 3 (s.occupiedFrom (byteAt b 1)).length),
          if 3 < (s.occupiedFrom (byteAt b 1)).length then 1 else 0]
          ++ ((s.occupiedFrom (byteAt b 1)).take 3).flatMap s.recordBytes)))) ∧
      (23 < byteAt b 1 → exec .readRecords s = .next (answered u x (.plain .badArg)))) ∧
    (RequestAtHead s x rest 0x07 → exec .readSlots s = .next (answered u x (.doneWith s.slotTableBytes)))

/-- What READ STATUS, READ RECORDS, READ SLOTS and READ TABLE return, byte by byte: the modes, flags and counts of the ports,
lines, controller and slots; the 17 bytes of a record, and which records stand at or above a start slot; the pointer, the
lockouts, the six bytes of each slot and the members packed five bits each; the generations and entries of a run. -/
def Obligations.ReplyLayouts : Prop :=
  ∀ s : State,
    let flag := fun (b : Bool) (n : Nat) => if b then n else 0
    let pair := fun (x y : Nat) => [byteOf (x / 16), byteOf (x % 16 * 16 + y / 256), byteOf y]
    let kinds := fun (k : KindSet) => flag k.extend 1 + flag k.early 2 + flag k.jump 4
    let slotCode := fun (k : Fin 4) => match (s.slot k).state with
      | .idle => 0
      | .called => 1
      | .granted => 2
      | .serving => 3
      | .closing => 4
    let port := fun (p : Port) =>
      let y := s.port p
      let code := match y.mode with
        | .enabled => 0
        | .draining => 1
        | .disabled => 2
      [byteOf (code + flag y.held 4 + flag y.holding 8 + flag y.silent 16), byteOf (usedUnits y.queue),
       byteOf (match p with | .a => 192 - s.params.split | .b => s.params.split)]
    let line := fun (l : Fin 8) =>
      let y := s.line l
      let code := match y.mode with
        | .enabled => 0
        | .draining => 1
        | .disabled => 2
        | .quarantined => 3
      byteOf (code + y.streak * 4 + flag y.buffer.isSome 64)
    let c := s.controller
    let slot := fun (k : Fin 4) =>
      let y := s.slot k
      let timer := match s.slotTimer k with
        | none => (0, 0)
        | some t => (match t.kind with | .response => 1 | .startLimit => 2 | .serviceLimit => 3, t.left)
      let kind := match y.kind with
        | some .early => 1
        | some .jump => 2
        | _ => 0
      let cause := match y.cause with
        | none => 0
        | some .checkout => 1
        | some .withdraw => 2
        | some .expired => 3
        | some .preempt => 4
        | some .timeout => 5
        | some .startLimit => 6
        | some .serviceLimit => 7
        | some .retire => 8
      [byteOf (slotCode k * 32 + flag y.wasServing 16 + timer.1 * 4 + kind), byteOf (y.call.getD 0 * 16 + cause),
       byteOf ((match y.approach with | none => 0 | some ap => ap.val) * 32 + y.members.length)]
        ++ pair (y.duration.getD 0) timer.2
    let lock := fun (ap : Fin 8) => (s.lockout ap).getD 0
    let members := (s.slot 0).members ++ (s.slot 1).members ++ (s.slot 2).members ++ (s.slot 3).members
    (s.mode ≠ .unaddressed → s.statusBytes =
      [if s.mode = .active then 2 else 1] ++ port .a ++ port .b
        ++ [line 0, line 1, line 2, line 3, line 4, line 5, line 6, line 7,
            byteOf (flag (decide (c.ready = .ready)) 1 + flag c.unresponsive 2 + c.timeoutCount * 4 + flag c.phaseKnown 16),
            byteOf (c.greenSet.toNat / 256), byteOf c.greenSet.toNat, byteOf c.phaseAge,
            byteOf ((List.finRange 24).countP (fun r => (s.record r).isSome)),
            byteOf (slotCode 0), byteOf (slotCode 1), byteOf (slotCode 2), byteOf (slotCode 3),
            byteOf s.inbound.length]) ∧
    (∀ (r : Fin 24) (x : Record), s.record r = some x →
      let word := x.route * 4 + flag x.direction 2
      let basis := match x.basis with
        | .forecast => 0
        | .suspect => 1
        | .confirmed => 2
      let state := match x.state with
        | .waiting => 0
        | .called => 1
        | .granted => 2
        | .serving => 3
      s.recordBytes r =
        [byteOf ((match x.callSlot with | none => 7 | some k => k.val) * 32 + r.val),
         byteOf (x.vehicle / 256), byteOf x.vehicle, byteOf (word / 256), byteOf word,
         byteOf (x.approach.val * 16 + basis * 4 + state), byteOf (x.level * 32 + x.retry * 8 + kinds x.excluded),
         byteOf (x.upstream.getD 0), match x.lateness with | none => 0x80 | some n => BitVec.ofInt 8 n]
          ++ pair x.eta x.lifetime
          ++ [byteOf (x.holdOff.getD 0 / 256), byteOf (x.holdOff.getD 0), byteOf (x.created / 65536),
              byteOf (x.created / 256), byteOf x.created]) ∧
    s.occupied = (List.finRange 24).countP (fun r => (s.record r).isSome) ∧
    (∀ start : Nat, (s.occupiedFrom start).Pairwise (fun r q => r < q) ∧
      ∀ r : Fin 24, r ∈ s.occupiedFrom start ↔ start ≤ r.val ∧ (s.record r).isSome = true) ∧
    s.slotTableBytes.take 37 = byteOf s.nextCall :: pair (lock 0) (lock 1) ++ pair (lock 2) (lock 3)
      ++ pair (lock 4) (lock 5) ++ pair (lock 6) (lock 7) ++ slot 0 ++ slot 1 ++ slot 2 ++ slot 3 ∧
    (let tail := s.slotTableBytes.drop 37
     let bitAt := fun (i : Nat) => (tail.getD (i / 8) 0).getLsbD (7 - i % 8)
     tail.length = (5 * members.length + 7) / 8 ∧
     (∀ (i j : Nat) (r : Fin 24), members[i]? = some r → j < 5 → bitAt (5 * i + j) = r.val.testBit (4 - j)) ∧
     ∀ i, 5 * members.length ≤ i → i < 8 * tail.length → bitAt i = false) ∧
    (∀ q ∈ [(Table.approach, 0, 7, 3), (.route, 1, 63, 6), (.conflicts, 2, 0, 1), (.params, 3, 0, 1)],
      q.1.code = q.2.1 ∧ q.1.lastIndex = q.2.2.1 ∧ q.1.maxCount = q.2.2.2) ∧
    (∀ (t : Table) (start count : Nat),
      let n := min count (t.lastIndex + 1 - start)
      let gen := fun (g : Word16) => [byteOf (g.toNat / 256), byteOf g.toNat]
      s.tableResults t start count = [byteOf t.code] ++ gen (s.tableGen t) ++ [byteOf start, byteOf n]
        ++ (List.range n).flatMap (fun j => gen (s.entryGen t (start + j)) ++ s.entryBytes t (start + j))) ∧
    (∀ ap : Fin 8, s.entryBytes .approach ap.val = (s.approach ap).raw.toBytes) ∧
    (∀ i : Fin 64, s.entryBytes .route i.val = s.routes[i].raw.toBytes) ∧
    s.entryBytes .conflicts 0 = s.conflictBytes ∧ s.entryBytes .params 0 = s.params.raw.toBytes

/-- VERIFY TABLE of a run of entries: MATCH with the count, MISMATCH with the index and the number matched, RANGE_END with
the number matched; nothing else changes. Entries match when every field is equal; CONFLICTS when no supplied pair is bad
and the supplied pairs name the stored set, whatever their number (above 28 the model's choice, log 26). -/
def Obligations.VerifyTableWalks : Prop :=
  (∀ (s : State) (x : InboundFrame) (rest : List InboundFrame) (t : Table), RequestAtHead s x rest 0x05 →
    let b := x.frame.body
    5 ≤ b.length → byteAt b 1 = t.code → byteAt b 2 ≤ t.lastIndex → byteAt b 3 ≤ 1 → 1 ≤ byteAt b 4 →
    byteAt b 4 ≤ t.maxCount → b.length = 5 + byteAt b 4 * t.suppliedLength (b.drop 5) →
    exec .verifyTable s = .next (answered (afterTake s rest) x
      (s.verifyWalk t (decide (byteAt b 3 = 1)) (byteAt b 2) 0
        (entriesOf (byteAt b 4) (t.suppliedLength (b.drop 5)) (b.drop 5))))) ∧
  (∀ (s : State) (t : Table) (down : Bool) (i matched : Nat) (e : List Byte) (rest : List (List Byte)),
    let walk := s.verifyWalk t down i matched (e :: rest)
    let next := if down then i - 1 else i + 1
    let atEnd := if down then i = 0 else t.lastIndex ≤ i
    (s.sameEntry t i e = false → walk = { status := .mismatch, results := [byteOf i, byteOf matched] }) ∧
    (s.sameEntry t i e = true → rest = [] → walk = { status := .isMatch, results := [byteOf (matched + 1)] }) ∧
    (s.sameEntry t i e = true → rest ≠ [] → atEnd → walk = { status := .rangeEnd, results := [byteOf (matched + 1)] }) ∧
    (s.sameEntry t i e = true → rest ≠ [] → ¬ atEnd → walk = s.verifyWalk t down next (matched + 1) rest)) ∧
  (∀ (t : Table) (b : List Byte) (count size j : Nat),
    t.suppliedLength b = (match t with | .approach => 14 | .route => 6 | .conflicts => 1 + byteAt b 0 | .params => 42) ∧
    (j < count → (entriesOf count size b)[j]? = some ((b.drop (j * size)).take size))) ∧
  ∀ (s : State) (e : List Byte),
    (∀ ap : Fin 8,
      let x := RawApproach.ofBytes e
      let y := s.approach ap
      let line := fun (l : Option (Fin 8)) => match l with | none => 15 | some n => n.val
      s.sameEntry .approach ap.val e = true ↔
        (x.inUse = if y.inUse then 1 else 0) ∧ x.phaseGroup = y.phaseGroup ∧ x.checkIn = line y.checkIn ∧
        x.checkOut = line y.checkOut ∧ x.kinds = y.kinds.bits ∧ x.travel = y.travel ∧ x.dwell = y.dwell ∧
        x.extension = y.extension ∧ x.earlyDuration = y.earlyDuration ∧ x.jumpDuration = y.jumpDuration ∧
        x.lockout = y.lockout ∧ x.rank = y.rank ∧
        x.downDirection = (match y.downDirection with | none => 0 | some .a => 1 | some .b => 2) ∧
        x.downAddress = y.downAddress.getD 0 ∧ x.downTravel = y.downTravel) ∧
    (∀ i : Fin 64,
      let x := RawRoute.ofBytes e
      let y := s.routes[i]
      s.sameEntry .route i.val e = true ↔
        (x.inUse = if y.inUse then 1 else 0) ∧ x.route = y.route ∧ (x.direction = if y.direction then 1 else 0) ∧
        x.baseLevel = y.baseLevel ∧ x.places = [y.late.getD 0 0, y.late.getD 1 0, y.late.getD 2 0] ∧
        x.cutOff = y.cutOff.getD 0 ∧ (x.excluded = if y.excluded then 1 else 0)) ∧
    (let pairs := (e.drop 1).map (fun b => (b.toNat / 16, b.toNat % 16))
     s.sameEntry .conflicts 0 e = true ↔
       (∀ q ∈ pairs, q.1 ≤ 7 ∧ q.2 ≤ 7 ∧ q.1 ≠ q.2) ∧ conflictSet pairs = s.conflicts) ∧
    (let x := RawParams.ofBytes e
     let y := s.params
     let flow := fun (f : FlowSetting) (on onThreshold offThreshold : Nat) =>
       (on = if f.on then 1 else 0) ∧ onThreshold = f.onThreshold ∧ offThreshold = f.offThreshold
     s.sameEntry .params 0 e = true ↔
       x.window = y.window ∧ x.responseTimeout = y.responseTimeout ∧ x.startLimit = y.startLimit ∧ x.margin = y.margin ∧
       x.denyHoldOff = y.denyHoldOff ∧ x.checkInGrace = y.checkInGrace ∧ x.noticeGrace = y.noticeGrace ∧
       x.unlisted = y.unlisted.getD 255 ∧ x.floor = y.floor ∧ x.split = y.split ∧
       flow y.flowA x.onA x.onThresholdA x.offThresholdA ∧ flow y.flowB x.onB x.onThresholdB x.offThresholdB ∧
       x.holdLimit = y.holdLimit ∧ x.silenceLimit = y.silenceLimit ∧ x.alertMask = y.alertMask.toNat ∧
       x.alertPort = (match y.alertPort with | .portA => 1 | .portB => 2 | .both => 3) ∧
       x.mapCount = y.noticeMap.length ∧ x.noticeMap = y.noticeMap.map (fun q => (q.1, q.2.val)) ∧
       ∀ l : Fin 8, x.lines[l.val]? = some
         (match (y.lines[l]).parity with | .noParity => 0 | .oddParity => 1 | .evenParity => 2,
          if (y.lines[l]).suspectAccept then 1 else 0))

/-- WRITE ENTRY, tests in order: CONFLICTS in ACTIVE is BAD_STATE, another generation is STALE with the entry as
READ TABLE gives it, both changing nothing; then the contents are judged and written by table. A write that
passes its tests replaces the entry, raises its generation and its table's by one modulo 65536 and no other, and
answers DONE with the new entry generation. A CONFLICTS write of more than 28 pairs needs only its number
(DEDUCED, log 15). -/
def Obligations.WriteEntryTestsAndWrites : Prop :=
  (∀ (s : State) (x : InboundFrame) (rest : List InboundFrame) (t : Table), RequestAtHead s x rest 0x04 →
     let b := x.frame.body
     let u := afterTake s rest
     let i := byteAt b 2
     let len := t.contentLength (b.drop 6)
     byteAt b 1 = t.code → i ≤ t.lastIndex → 6 + len ≤ b.length → byteAt b 5 ≤ 1 →
     (t = .conflicts → s.mode = .active → exec .writeEntry s = .next (answered u x (.plain .badState))) ∧
     ((t = .conflicts → s.mode = .standby) → (s.entryGen t i).toNat ≠ word16At b 3 →
       exec .writeEntry s = .next (answered u x { status := .stale, results := s.tableResults t i 1 })) ∧
     ((t = .conflicts → s.mode = .standby) → (s.entryGen t i).toNat = word16At b 3 →
       let w := u.writeContents t i (decide (byteAt b 5 = 1)) ((b.drop 6).take len)
       exec .writeEntry s = .next (answered w.1 x w.2) ∧ (w.2.status ≠ .done → w.1 = u) ∧
        let e := RawRoute.ofBytes ((b.drop 6).take len)
        (t = .route → firstFailure e.fieldChecks = none → u.duplicateRoute (Fin.ofNat 64 i) e.entry = none →
          w = (u.storeRoute (Fin.ofNat 64 i) e.entry, .doneWith (bytes16 (s.entryGen t i + 1).toNat))))) ∧
  ∀ (s u : State) (t : Table) (i : Nat) (force : Bool) (contents : List Byte) (a : Answer), i ≤ t.lastIndex →
    s.writeContents t i force contents = (u, a) → a.status = .done →
    a.results = bytes16 (s.entryGen t i + 1).toNat ∧
    u.tableGen t = s.tableGen t + 1 ∧ u.entryGen t i = s.entryGen t i + 1 ∧
    (∀ o : Table, o ≠ t → u.tableGen o = s.tableGen o ∧ ∀ j, u.entryGen o j = s.entryGen o j) ∧
    (∀ j, j ≤ t.lastIndex → j ≠ i → u.entryGen t j = s.entryGen t j) ∧
    (t = .approach → u.approaches = s.approaches.set (Fin.ofNat 8 i) (RawApproach.ofBytes contents).entry) ∧
    (t = .route → u.routes = s.routes.set (Fin.ofNat 64 i) (RawRoute.ofBytes contents).entry) ∧
    (t = .conflicts → u.conflicts = conflictSet (rawPairs contents)) ∧
    (t = .params → u.params = (RawParams.ofBytes contents).entry) ∧
    (t ≠ .approach → u.approaches = s.approaches ∧ u.records = s.records ∧ u.slots = s.slots) ∧
    (t ≠ .route → u.routes = s.routes) ∧ (t ≠ .conflicts → u.conflicts = s.conflicts) ∧
    (t ≠ .params → u.params = s.params)

/-- The contents of an APPROACH write are tested field by field in field order, an entry written in use then against the
other in-use entries and the junction address, and the first test that fails is reported with its check code and index,
the write changing nothing (the range of field 14 before its presence: DEDUCED, log 16). With none failing the write goes
on to the busy test. -/
def Obligations.ApproachWritesChecked : Prop :=
  ∀ (s : State) (ap : Fin 8) (force : Bool) (contents : List Byte),
    let x := RawApproach.ofBytes contents
    let tests := approachTests s ap x
    (∀ code index, FirstFails tests code index →
      s.writeContents .approach ap.val force contents = (s, refusedBy code index)) ∧
    (AllPass tests → firstFailure (s.approachChecks ap x) = none ∧
      s.writeContents .approach ap.val force contents = s.writeApproach ap force contents)

/-- The contents of a ROUTE write: the route number in its range, no hole in the thresholds and the thresholds strictly
rising (in this order: DEDUCED, log 21), then the key held by no other in-use entry, or DUPLICATE with the lowest that
holds it. A CONFLICTS write: at most 28 pairs, then each pair in turn naming two approaches. The first failure is answered
and changes nothing; a write that passes replaces the entry, or the whole set, and raises its generations. A set of pairs is
kept in order, each pair once with its lower approach first, however often and in whatever order it was written. -/
def Obligations.RouteAndConflictsWritesChecked : Prop :=
  (∀ (s : State) (i : Fin 64) (force : Bool) (contents : List Byte),
    let x := RawRoute.ofBytes contents
    let tests := routeTests x
    let twin := fun (j : Fin 64) => j ≠ i ∧ x.inUse = 1 ∧ s.routes[j].inUse = true ∧ s.routes[j].route = x.route ∧
      s.routes[j].direction = decide (x.direction = 1)
    let written := s.writeContents .route i.val force contents
    (∀ code index, FirstFails tests code index → written = (s, refusedBy code index)) ∧
    (∀ j, AllPass tests → twin j → (∀ o, o < j → ¬ twin o) →
      written = (s, { status := .duplicate, results := [byteOf j.val] })) ∧
    (AllPass tests → (∀ j, ¬ twin j) → written =
      ({ s with routes := s.routes.set i x.entry, routeGens := s.routeGens.set i (s.routeGens[i] + 1)
                tableGens := { s.tableGens with route := s.tableGens.route + 1 } },
       .doneWith (bytes16 (s.routeGens[i] + 1).toNat)))) ∧
  (∀ (s : State) (force : Bool) (contents : List Byte),
    let number := byteAt contents 0
    let pairs := (contents.drop 1).map (fun b => (b.toNat / 16, b.toNat % 16))
    let bad := fun (q : Nat × Nat) => 7 < q.1 ∨ 7 < q.2 ∨ q.1 = q.2
    let written := s.writeContents .conflicts 0 force contents
    (28 < number → written = (s, refusedBy 0x02 1)) ∧
    (∀ j q, number ≤ 28 → pairs[j]? = some q → bad q → (∀ i < j, ∀ o ∈ pairs[i]?, ¬ bad o) →
      written = (s, refusedBy 0x06 j)) ∧
    (number ≤ 28 → (∀ q ∈ pairs, ¬ bad q) → written =
      ({ s with conflicts := conflictSet pairs
                tableGens := { s.tableGens with conflicts := s.tableGens.conflicts + 1 } },
       .doneWith (bytes16 (s.tableGens.conflicts + 1).toNat)))) ∧
  ∀ pairs : List (Nat × Nat),
    (conflictSet pairs).Pairwise (fun q o => q.1 < o.1 ∨ (q.1 = o.1 ∧ q.2 < o.2)) ∧
    ∀ a b : Fin 8, (a, b) ∈ conflictSet pairs ↔ a < b ∧ ((a.val, b.val) ∈ pairs ∨ (b.val, a.val) ∈ pairs)

/-- The contents of a PARAMS write are tested in field order (within field 21: DEDUCED, log 17). Then, when the split
changes, each queue must fit its new partition, or IN_USE; then each on-threshold must fit the partition its port's arrivals
feed, or FLOW_PARTITION. The first failure is answered and changes nothing. A write that passes replaces the record whole
and raises the generation; each port whose flow setting changed is evaluated (port A first: the model's choice, log 20), and
the evaluation-due mark is set in ACTIVE. No line, record or slot changes. -/
def Obligations.ParamsWritesChecked : Prop :=
  ∀ (s : State) (force : Bool) (contents : List Byte),
    let x := RawParams.ofBytes contents
    let tests := paramsTests s x
    let written := s.writeContents .params 0 force contents
    let tooFull := x.split ≠ s.params.split ∧
      (x.split < usedUnits s.portB.queue ∨ 192 - x.split < usedUnits s.portA.queue)
    let e := x.entry
    let u := { s with params := e, tableGens := { s.tableGens with params := s.tableGens.params + 1 } }
    let v := if e.flowA = s.params.flowA then u else u.evalFlow .a
    let w := if e.flowB = s.params.flowB then v else v.evalFlow .b
    (∀ code index, FirstFails tests code index → written = (s, refusedBy code index)) ∧
    (AllPass tests → tooFull → written = (s, .plain .inUse)) ∧
    (AllPass tests → ¬ tooFull → x.split < x.onThresholdA → written = (s, refusedBy 0x08 0)) ∧
    (AllPass tests → ¬ tooFull → x.onThresholdA ≤ x.split → 192 - x.split < x.onThresholdB →
      written = (s, refusedBy 0x08 1)) ∧
    (AllPass tests → ¬ tooFull → x.onThresholdA ≤ x.split → x.onThresholdB ≤ 192 - x.split →
      written = (w.markDue, .doneWith (bytes16 (s.tableGens.params + 1).toNat)))

/-- An APPROACH write whose checks pass: a busy approach is refused unless forced, and then retired: its records removed as
RETIRED, its open slot closed with a CANCEL, or a RELEASE from SERVING; every other record and slot stays. -/
def Obligations.RetirementClearsApproach : Prop :=
  ∀ (s : State) (ap : Fin 8),
    let u := s.retire ap
    (∀ (force : Bool) (contents : List Byte),
      let x := RawApproach.ofBytes contents
      firstFailure (s.approachChecks ap x) = none →
      let w := fun (v : State) =>
        ((v.storeApproach ap x.entry).markDue, Answer.doneWith (bytes16 (s.approachGens[ap] + 1).toNat))
      (s.busy ap = true → force = false →
        s.writeApproach ap force contents = (s, { status := .inUse, results := [] })) ∧
      (s.busy ap = true → force = true → s.writeApproach ap force contents = w u) ∧
      (s.busy ap = false → s.writeApproach ap force contents = w s)) ∧
    (s.busy ap = true ↔ s.mode = .active ∧ ((∃ r : Fin 24, ∃ x ∈ s.record r, x.approach = ap) ∨
      ∃ k : Fin 4, (s.slot k).state ≠ .idle ∧ (s.slot k).approach = some ap)) ∧
    (∀ r : Fin 24, ∀ x ∈ s.record r, u.record r = if x.approach = ap then none else some x) ∧
    (∀ r : Fin 24, s.record r = none → u.record r = none) ∧
    u.counters.get (.approach ap .retired) = s.counters.get (.approach ap .retired)
      + BitVec.ofNat 32 ((List.finRange 24).countP (fun r => (s.record r).any (fun x => x.approach = ap))) ∧
    ((∀ k : Fin 4, (s.slot k).state.isOpen = true → (s.slot k).approach ≠ some ap) →
      u.slots = s.slots ∧ u.output = s.output ∧ u.slotTimers = s.slotTimers) ∧
    ∀ k : Fin 4, (s.slot k).state.isOpen = true → (s.slot k).approach = some ap →
      (∀ j : Fin 4, j < k → (s.slot j).state.isOpen = true → (s.slot j).approach ≠ some ap) →
      let y := s.slot k
      let closing : CallSlot := { y with state := .closing, cause := some .retire, members := []
                                         wasServing := y.wasServing || decide (y.state = .serving) }
      let giveUp : CtrlMessage := { kind := if y.state = .serving then .release else .cancel, call := y.call.getD 0
                                    group := (s.approach ap).phaseGroup, code := none, duration := 0 }
      let response : SlotTimer := { kind := .response, left := s.params.responseTimeout }
      u.slots = s.slots.set k closing ∧ u.output = s.output ++ [giveUp] ∧
        u.slotTimers = s.slotTimers.set k (some response)

/-- A REQUEST whose arguments are missing, out of range or of the wrong length is answered BAD_ARG and changes nothing. A
PORT CONTROL or LINE CONTROL whose action is missing or unlisted is answered by its DISABLE row (DEDUCED, log 9). -/
def Obligations.BadArgumentsAnswered : Prop :=
  ∀ (s : State) (x : InboundFrame) (rest : List InboundFrame),
    let b := x.frame.body
    let bad : Host.Outcome State Fault Refusal := .next (answered (afterTake s rest) x { status := .badArg, results := [] })
    (RequestAtHead s x rest 0x01 → b.length < 2 → exec .identify s = bad) ∧
    (RequestAtHead s x rest 0x03 → b.length < 4 ∨ 3 < byteAt b 1 → exec .readTable s = bad) ∧
    (RequestAtHead s x rest 0x04 →
      (3 < byteAt b 1 → exec .writeEntry s = bad) ∧
      ∀ t : Table, byteAt b 1 = t.code →
        t.lastIndex < byteAt b 2 ∨ 1 < byteAt b 5 ∨ b.length < 6 + t.contentLength (b.drop 6) →
        exec .writeEntry s = bad) ∧
    (RequestAtHead s x rest 0x05 →
      (b.length < 5 ∨ 3 < byteAt b 1 ∨ 1 < byteAt b 3 → exec .verifyTable s = bad) ∧
      ∀ t : Table, byteAt b 1 = t.code →
        t.lastIndex < byteAt b 2 ∨ byteAt b 4 = 0 ∨ t.maxCount < byteAt b 4 ∨
          b.length - 5 ≠ byteAt b 4 * t.suppliedLength (b.drop 5) →
        exec .verifyTable s = bad) ∧
    (RequestAtHead s x rest 0x06 → b.length < 2 → exec .readRecords s = bad) ∧
    (RequestAtHead s x rest 0x09 →
      (b.length < 3 ∨ 2 < byteAt b 2 → exec .portDisable s = bad) ∧
      (1 < byteAt b 1 → byteAt b 2 = 0 → exec .portDisable s = bad) ∧
      (1 < byteAt b 1 → byteAt b 2 = 1 → exec .portEnable s = bad) ∧
      (1 < byteAt b 1 → byteAt b 2 = 2 → exec .portReset s = bad)) ∧
    (RequestAtHead s x rest 0x0A →
      (b.length < 3 ∨ 1 < byteAt b 2 → exec .lineDisable s = bad) ∧
      (7 < byteAt b 1 → byteAt b 2 = 0 → exec .lineDisable s = bad) ∧
      (7 < byteAt b 1 → byteAt b 2 = 1 → exec .lineEnable s = bad))

/-- READ COUNTERS returns the set named and its group's rollover flag, and with clear set sets exactly those to 0; each
group and member names its counters in reply order. READ ATTENTION returns the set of conditions and clears it. -/
def Obligations.CountersAndAttentionRead : Prop :=
  (∀ (s : State) (x : InboundFrame) (rest : List InboundFrame),
    let u := afterTake s rest
    let b := x.frame.body
    (RequestAtHead s x rest 0x0B → 4 ≤ b.length → ∀ g refs, counterSet (byteAt b 1) (byteAt b 2) = some (g, refs) →
      let a := Answer.doneWith ([byteOf (byteAt b 1), byteOf (byteAt b 2), if s.rollover.get g then 1 else 0]
        ++ refs.flatMap (fun ref => bytes32 (s.counters.get ref).toNat))
      (byteAt b 3 = 0 → exec .readCounters s = .next (answered u x a)) ∧
      (byteAt b 3 = 1 → ∃ v : State, exec .readCounters s = .next (answered v x a) ∧
        v = { u with counters := v.counters, rollover := s.rollover.put g false } ∧
        ∀ ref : CounterRef, v.counters.get ref = if ref ∈ refs then 0 else s.counters.get ref)) ∧
    (RequestAtHead s x rest 0x0B → b.length < 4 ∨ 1 < byteAt b 3 ∨ counterSet (byteAt b 1) (byteAt b 2) = none →
      exec .readCounters s = .next (answered u x (.plain .badArg))) ∧
    (RequestAtHead s x rest 0x0C → exec .readAttention s = .next (answered { u with conditions := 0 } x
      (.doneWith (bytes16 s.conditions.toNat))))) ∧
  ∀ member : Nat,
    let port := fun (p : Port) => ([.rxGood, .rxCrcErr, .rxLengthErr, .rxWhileDisabled, .txFrames, .relayDroppedFull,
      .relayBlocked, .hopExpired, .holdsSent, .holdsReceived, .holdExpiries, .flushed] : List PortCounter).map (.port p)
    counterSet 0 member = some (.portA, port .a) ∧ counterSet 1 member = some (.portB, port .b) ∧
    counterSet 2 member = some (.locals,
      [.loc .inboundDropped, .loc .unknownKind, .loc .repliesDropped, .loc .reportsDroppedFull]) ∧
    (∀ l : Fin 8, member = l.val → counterSet 3 member = some (.beacon,
      [.beacon l .reportsGood, .beacon l .parityErr, .beacon l .framingErr, .beacon l .checksumErr,
       .beacon l .overruns, .beacon l .suspectAccepted, .beacon l .unmapped])) ∧
    (8 ≤ member → counterSet 3 member = none) ∧
    (∀ ap : Fin 8,
      (member = ap.val → counterSet 4 member = some (.approach,
        [.approach ap .checkIns, .approach ap .checkOuts, .approach ap .noticesIn, .approach ap .calls,
         .approach ap .accepts, .approach ap .denies, .approach ap .preemptions, .approach ap .overrides])) ∧
      (member = 8 + ap.val → counterSet 4 member = some (.approach,
        [.approach ap .served, .approach ap .cleared, .approach ap .expired, .approach ap .refused,
         .approach ap .withdrawn, .approach ap .displaced, .approach ap .abandoned, .approach ap .retired]))) ∧
    (16 ≤ member → counterSet 4 member = none) ∧
    counterSet 5 member = some (.controller, [.controller .timeouts, .controller .strayMessages,
      .controller .badMessages, .controller .unresponsiveEntries]) ∧
    counterSet 6 member = some (.notice, [.notice .noticesSent, .notice .noticesUnsent, .notice .noticesUnmapped,
      .notice .noticesLate]) ∧
    ∀ group, 7 ≤ group → counterSet group member = none

/-- COMMISSION in STANDBY sets ACTIVE when the whole-table checks pass, else answers INCONSISTENT with the first failure, its
check code and its index, and changes nothing: an in-use approach, the fields and address of each, lines shared by two, the
targets of the notice map, the targets of CONFLICTS. DECOMMISSION in ACTIVE empties the request table, places the messages,
idles the slots, stops the lockouts and sets STANDBY; each in the other mode answers BAD_STATE. -/
def Obligations.CommissionAndDecommission : Prop :=
  ∀ (s : State) (x : InboundFrame) (rest : List InboundFrame),
    let u := afterTake s rest
    let tests := commissionTests s
    (RequestAtHead s x rest 0x0D → s.mode = .standby →
      (AllPass tests → exec .commission s = .next (answered { u with mode := .active } x (.plain .done))) ∧
      ∀ code index, FirstFails tests code index → exec .commission s = .next (answered u x (refusedBy code index))) ∧
    (RequestAtHead s x rest 0x0D → s.mode ≠ .standby →
      exec .commission s = .next (answered u x (.plain .badState))) ∧
    (RequestAtHead s x rest 0x0E → s.mode ≠ .active →
      exec .decommission s = .next (answered u x (.plain .badState))) ∧
    (RequestAtHead s x rest 0x0E → s.mode = .active → ∃ v : State,
      exec .decommission s = .next (answered v x (.plain .done)) ∧ v.mode = .standby ∧ v.evalDue = false ∧
      (∀ r : Fin 24, v.record r = none) ∧ (∀ k : Fin 4, v.slot k = .idle ∧ v.slotTimer k = none) ∧
      (∀ ap : Fin 8, v.lockout ap = none) ∧
      v.output = s.output ++ ([0, 1, 2, 3] : List (Fin 4)).flatMap (fun k =>
        match (s.slot k).state with
        | .called => [s.compose .cancel k]
        | .granted => [s.compose .cancel k]
        | .serving => [s.compose .release k]
        | .idle => []
        | .closing => []) ∧
      v = { u with mode := v.mode, evalDue := v.evalDue, records := v.records, slots := v.slots,
                   slotTimers := v.slotTimers, lockouts := v.lockouts, output := v.output, counters := v.counters,
                   rollover := v.rollover, conditions := v.conditions, alertDue := v.alertDue } ∧
      ∀ r : Fin 24, ∀ y ∈ s.record r,
        v.counters.get (.approach y.approach .retired) = s.counters.get (.approach y.approach .retired)
          + BitVec.ofNat 32 ((List.finRange 24).countP (fun q => (s.record q).any (fun z => z.approach = y.approach))))

/-! ### What every step keeps -/

/-- Every invariant of Safety.lean holds right after power-on or the reset pin, whatever the straps and the level. -/
def Obligations.ResetHoldsEveryInvariant : Prop :=
  ∀ (straps : BitVec 6) (level : ReadyLevel) (pending : List Instr) (n : Nat),
    let s := State.afterReset straps level pending n
    QueuesFit s ∧ AlertsCounted s ∧ PortsLawful s ∧ LinesLawful s ∧ RecordsLawful s ∧ QuietOutsideActive s ∧
      CallsLawful s

/-- No step lets a transmit queue exceed its partition. Every step keeps the alert count equal to the number of this
engine's ALERTs in the queues, at most 2. -/
def Obligations.QueuesAndAlertsStayLawful : Prop :=
  (∀ s t : State, QueuesFit s → step s = .next t → QueuesFit t) ∧
  ∀ s t : State, AlertsCounted s → step s = .next t → AlertsCounted t

/-- Every step keeps the law of both ports. Every step keeps the law of every beacon line. -/
def Obligations.PortsAndLinesStayLawful : Prop :=
  (∀ s t : State, PortsLawful s → step s = .next t → PortsLawful t) ∧
  ∀ s t : State, LinesLawful s → step s = .next t → LinesLawful t

/-- Every step keeps vehicle numbers distinct, FORECAST records with their upstream junction, and retry counts below 3. -/
def Obligations.RecordsStayLawful : Prop :=
  ∀ s t : State, RecordsLawful s → step s = .next t → RecordsLawful t

/-- Every step keeps the engine without records, calls, timers of calls and lockouts outside ACTIVE. -/
def Obligations.QuietOutsideActiveStays : Prop :=
  ∀ s t : State, QuietOutsideActive s → step s = .next t → QuietOutsideActive t

/-- Every step keeps calls distinct, apart and free of conflicts, and slots and their members in agreement. -/
def Obligations.CallsStayLawful : Prop :=
  ∀ s t : State, CallsLawful s → step s = .next t → CallsLawful t
end

