-- ==== Sys2Proof/Laws/State.lean ====
section
/-! SUPPORT. What a read gives after each update of the state: one lemma per field and update, so that no proof unfolds a
record update. -/

namespace Sys2Proof.Laws

open Sys2Proof.Machine

/-! ### A port replaced -/

@[simp] theorem port_setPort_same (s : State) (p : Port) (x : PortState) : (s.setPort p x).port p = x := by
  cases p <;> rfl

theorem port_setPort_ne (s : State) (p q : Port) (x : PortState) (h : q ≠ p) : (s.setPort p x).port q = s.port q := by
  cases p <;> cases q <;> first | rfl | exact absurd rfl h

@[simp] theorem port_setPort_other (s : State) (p : Port) (x : PortState) :
    (s.setPort p x).port p.other = s.port p.other := by
  cases p <;> rfl

@[simp] theorem setPort_setPort (s : State) (p : Port) (x y : PortState) : (s.setPort p x).setPort p y = s.setPort p y := by
  cases p <;> rfl

@[simp] theorem setPort_port (s : State) (p : Port) : s.setPort p (s.port p) = s := by
  cases p <;> rfl

@[simp] theorem other_other (p : Port) : p.other.other = p := by
  cases p <;> rfl

theorem other_ne (p : Port) : p.other ≠ p := by
  cases p <;> exact fun h => nomatch h

@[simp] theorem setPort_pending (s : State) (p : Port) (x : PortState) : (s.setPort p x).pending = s.pending := by
  cases p <;> rfl
@[simp] theorem setPort_freeCount (s : State) (p : Port) (x : PortState) : (s.setPort p x).freeCount = s.freeCount := by
  cases p <;> rfl
@[simp] theorem setPort_rawStraps (s : State) (p : Port) (x : PortState) : (s.setPort p x).rawStraps = s.rawStraps := by
  cases p <;> rfl
@[simp] theorem setPort_address (s : State) (p : Port) (x : PortState) : (s.setPort p x).address = s.address := by
  cases p <;> rfl
@[simp] theorem setPort_mode (s : State) (p : Port) (x : PortState) : (s.setPort p x).mode = s.mode := by
  cases p <;> rfl
@[simp] theorem setPort_corridorTime (s : State) (p : Port) (x : PortState) : (s.setPort p x).corridorTime = s.corridorTime := by
  cases p <;> rfl
@[simp] theorem setPort_timeSet (s : State) (p : Port) (x : PortState) : (s.setPort p x).timeSet = s.timeSet := by
  cases p <;> rfl
@[simp] theorem setPort_inbound (s : State) (p : Port) (x : PortState) : (s.setPort p x).inbound = s.inbound := by
  cases p <;> rfl
@[simp] theorem setPort_lines (s : State) (p : Port) (x : PortState) : (s.setPort p x).lines = s.lines := by
  cases p <;> rfl
@[simp] theorem setPort_reportPointer (s : State) (p : Port) (x : PortState) : (s.setPort p x).reportPointer = s.reportPointer := by
  cases p <;> rfl
@[simp] theorem setPort_approaches (s : State) (p : Port) (x : PortState) : (s.setPort p x).approaches = s.approaches := by
  cases p <;> rfl
@[simp] theorem setPort_approachGens (s : State) (p : Port) (x : PortState) : (s.setPort p x).approachGens = s.approachGens := by
  cases p <;> rfl
@[simp] theorem setPort_routes (s : State) (p : Port) (x : PortState) : (s.setPort p x).routes = s.routes := by
  cases p <;> rfl
@[simp] theorem setPort_routeGens (s : State) (p : Port) (x : PortState) : (s.setPort p x).routeGens = s.routeGens := by
  cases p <;> rfl
@[simp] theorem setPort_conflicts (s : State) (p : Port) (x : PortState) : (s.setPort p x).conflicts = s.conflicts := by
  cases p <;> rfl
@[simp] theorem setPort_params (s : State) (p : Port) (x : PortState) : (s.setPort p x).params = s.params := by
  cases p <;> rfl
@[simp] theorem setPort_tableGens (s : State) (p : Port) (x : PortState) : (s.setPort p x).tableGens = s.tableGens := by
  cases p <;> rfl
@[simp] theorem setPort_records (s : State) (p : Port) (x : PortState) : (s.setPort p x).records = s.records := by
  cases p <;> rfl
@[simp] theorem setPort_slots (s : State) (p : Port) (x : PortState) : (s.setPort p x).slots = s.slots := by
  cases p <;> rfl
@[simp] theorem setPort_nextCall (s : State) (p : Port) (x : PortState) : (s.setPort p x).nextCall = s.nextCall := by
  cases p <;> rfl
@[simp] theorem setPort_lockouts (s : State) (p : Port) (x : PortState) : (s.setPort p x).lockouts = s.lockouts := by
  cases p <;> rfl
@[simp] theorem setPort_evalDue (s : State) (p : Port) (x : PortState) : (s.setPort p x).evalDue = s.evalDue := by
  cases p <;> rfl
@[simp] theorem setPort_controller (s : State) (p : Port) (x : PortState) : (s.setPort p x).controller = s.controller := by
  cases p <;> rfl
@[simp] theorem setPort_msgReceiver (s : State) (p : Port) (x : PortState) : (s.setPort p x).msgReceiver = s.msgReceiver := by
  cases p <;> rfl
@[simp] theorem setPort_output (s : State) (p : Port) (x : PortState) : (s.setPort p x).output = s.output := by
  cases p <;> rfl
@[simp] theorem setPort_slotTimers (s : State) (p : Port) (x : PortState) : (s.setPort p x).slotTimers = s.slotTimers := by
  cases p <;> rfl
@[simp] theorem setPort_counters (s : State) (p : Port) (x : PortState) : (s.setPort p x).counters = s.counters := by
  cases p <;> rfl
@[simp] theorem setPort_rollover (s : State) (p : Port) (x : PortState) : (s.setPort p x).rollover = s.rollover := by
  cases p <;> rfl
@[simp] theorem setPort_conditions (s : State) (p : Port) (x : PortState) : (s.setPort p x).conditions = s.conditions := by
  cases p <;> rfl
@[simp] theorem setPort_alertCount (s : State) (p : Port) (x : PortState) : (s.setPort p x).alertCount = s.alertCount := by
  cases p <;> rfl
@[simp] theorem setPort_alertDue (s : State) (p : Port) (x : PortState) : (s.setPort p x).alertDue = s.alertDue := by
  cases p <;> rfl

/-! ### A beacon line replaced -/

@[simp] theorem line_setLine_same (s : State) (l : Fin 8) (x : LineState) : (s.setLine l x).line l = x := by
  simp [State.setLine, State.line]

theorem line_setLine_ne (s : State) (l : Fin 8) (x : LineState) (j : Fin 8) (h : j ≠ l) :
    (s.setLine l x).line j = s.line j := by
  have hv : l.val ≠ j.val := fun e => h (Fin.ext e.symm)
  simp [State.setLine, State.line, Vector.getElem_set_ne, hv]

theorem line_setLine (s : State) (l : Fin 8) (x : LineState) (j : Fin 8) :
    (s.setLine l x).line j = if j = l then x else s.line j := by
  by_cases h : j = l
  · subst h; simp
  · simp [h, line_setLine_ne]

@[simp] theorem setLine_setLine (s : State) (l : Fin 8) (x : LineState) (z : LineState) :
    (s.setLine l x).setLine l z = s.setLine l z := by
  simp [State.setLine]

@[simp] theorem port_setLine (s : State) (l : Fin 8) (x : LineState) (q : Port) : (s.setLine l x).port q = s.port q := by
  cases q <;> rfl
@[simp] theorem record_setLine (s : State) (l : Fin 8) (x : LineState) (j : Fin 24) : (s.setLine l x).record j = s.record j := rfl
@[simp] theorem slot_setLine (s : State) (l : Fin 8) (x : LineState) (j : Fin 4) : (s.setLine l x).slot j = s.slot j := rfl
@[simp] theorem slotTimer_setLine (s : State) (l : Fin 8) (x : LineState) (j : Fin 4) : (s.setLine l x).slotTimer j = s.slotTimer j := rfl
@[simp] theorem lockout_setLine (s : State) (l : Fin 8) (x : LineState) (j : Fin 8) : (s.setLine l x).lockout j = s.lockout j := rfl
@[simp] theorem approach_setLine (s : State) (l : Fin 8) (x : LineState) (j : Fin 8) : (s.setLine l x).approach j = s.approach j := rfl
@[simp] theorem partition_setLine (s : State) (l : Fin 8) (x : LineState) (q : Port) : (s.setLine l x).partition q = s.partition q := by
  cases q <;> rfl
@[simp] theorem setLine_pending (s : State) (l : Fin 8) (x : LineState) : (s.setLine l x).pending = s.pending := rfl
@[simp] theorem setLine_freeCount (s : State) (l : Fin 8) (x : LineState) : (s.setLine l x).freeCount = s.freeCount := rfl
@[simp] theorem setLine_rawStraps (s : State) (l : Fin 8) (x : LineState) : (s.setLine l x).rawStraps = s.rawStraps := rfl
@[simp] theorem setLine_address (s : State) (l : Fin 8) (x : LineState) : (s.setLine l x).address = s.address := rfl
@[simp] theorem setLine_mode (s : State) (l : Fin 8) (x : LineState) : (s.setLine l x).mode = s.mode := rfl
@[simp] theorem setLine_corridorTime (s : State) (l : Fin 8) (x : LineState) : (s.setLine l x).corridorTime = s.corridorTime := rfl
@[simp] theorem setLine_timeSet (s : State) (l : Fin 8) (x : LineState) : (s.setLine l x).timeSet = s.timeSet := rfl
@[simp] theorem setLine_portA (s : State) (l : Fin 8) (x : LineState) : (s.setLine l x).portA = s.portA := rfl
@[simp] theorem setLine_portB (s : State) (l : Fin 8) (x : LineState) : (s.setLine l x).portB = s.portB := rfl
@[simp] theorem setLine_inbound (s : State) (l : Fin 8) (x : LineState) : (s.setLine l x).inbound = s.inbound := rfl
@[simp] theorem setLine_reportPointer (s : State) (l : Fin 8) (x : LineState) : (s.setLine l x).reportPointer = s.reportPointer := rfl
@[simp] theorem setLine_approaches (s : State) (l : Fin 8) (x : LineState) : (s.setLine l x).approaches = s.approaches := rfl
@[simp] theorem setLine_approachGens (s : State) (l : Fin 8) (x : LineState) : (s.setLine l x).approachGens = s.approachGens := rfl
@[simp] theorem setLine_routes (s : State) (l : Fin 8) (x : LineState) : (s.setLine l x).routes = s.routes := rfl
@[simp] theorem setLine_routeGens (s : State) (l : Fin 8) (x : LineState) : (s.setLine l x).routeGens = s.routeGens := rfl
@[simp] theorem setLine_conflicts (s : State) (l : Fin 8) (x : LineState) : (s.setLine l x).conflicts = s.conflicts := rfl
@[simp] theorem setLine_params (s : State) (l : Fin 8) (x : LineState) : (s.setLine l x).params = s.params := rfl
@[simp] theorem setLine_tableGens (s : State) (l : Fin 8) (x : LineState) : (s.setLine l x).tableGens = s.tableGens := rfl
@[simp] theorem setLine_records (s : State) (l : Fin 8) (x : LineState) : (s.setLine l x).records = s.records := rfl
@[simp] theorem setLine_slots (s : State) (l : Fin 8) (x : LineState) : (s.setLine l x).slots = s.slots := rfl
@[simp] theorem setLine_nextCall (s : State) (l : Fin 8) (x : LineState) : (s.setLine l x).nextCall = s.nextCall := rfl
@[simp] theorem setLine_lockouts (s : State) (l : Fin 8) (x : LineState) : (s.setLine l x).lockouts = s.lockouts := rfl
@[simp] theorem setLine_evalDue (s : State) (l : Fin 8) (x : LineState) : (s.setLine l x).evalDue = s.evalDue := rfl
@[simp] theorem setLine_controller (s : State) (l : Fin 8) (x : LineState) : (s.setLine l x).controller = s.controller := rfl
@[simp] theorem setLine_msgReceiver (s : State) (l : Fin 8) (x : LineState) : (s.setLine l x).msgReceiver = s.msgReceiver := rfl
@[simp] theorem setLine_output (s : State) (l : Fin 8) (x : LineState) : (s.setLine l x).output = s.output := rfl
@[simp] theorem setLine_slotTimers (s : State) (l : Fin 8) (x : LineState) : (s.setLine l x).slotTimers = s.slotTimers := rfl
@[simp] theorem setLine_counters (s : State) (l : Fin 8) (x : LineState) : (s.setLine l x).counters = s.counters := rfl
@[simp] theorem setLine_rollover (s : State) (l : Fin 8) (x : LineState) : (s.setLine l x).rollover = s.rollover := rfl
@[simp] theorem setLine_conditions (s : State) (l : Fin 8) (x : LineState) : (s.setLine l x).conditions = s.conditions := rfl
@[simp] theorem setLine_alertCount (s : State) (l : Fin 8) (x : LineState) : (s.setLine l x).alertCount = s.alertCount := rfl
@[simp] theorem setLine_alertDue (s : State) (l : Fin 8) (x : LineState) : (s.setLine l x).alertDue = s.alertDue := rfl

/-! ### A record slot written -/

@[simp] theorem record_setRecord_same (s : State) (r : Fin 24) (x : Option Record) : (s.setRecord r x).record r = x := by
  simp [State.setRecord, State.record]

theorem record_setRecord_ne (s : State) (r : Fin 24) (x : Option Record) (j : Fin 24) (h : j ≠ r) :
    (s.setRecord r x).record j = s.record j := by
  have hv : r.val ≠ j.val := fun e => h (Fin.ext e.symm)
  simp [State.setRecord, State.record, Vector.getElem_set_ne, hv]

theorem record_setRecord (s : State) (r : Fin 24) (x : Option Record) (j : Fin 24) :
    (s.setRecord r x).record j = if j = r then x else s.record j := by
  by_cases h : j = r
  · subst h; simp
  · simp [h, record_setRecord_ne]

@[simp] theorem setRecord_setRecord (s : State) (r : Fin 24) (x : Option Record) (z : Option Record) :
    (s.setRecord r x).setRecord r z = s.setRecord r z := by
  simp [State.setRecord]

@[simp] theorem port_setRecord (s : State) (r : Fin 24) (x : Option Record) (q : Port) : (s.setRecord r x).port q = s.port q := by
  cases q <;> rfl
@[simp] theorem line_setRecord (s : State) (r : Fin 24) (x : Option Record) (j : Fin 8) : (s.setRecord r x).line j = s.line j := rfl
@[simp] theorem slot_setRecord (s : State) (r : Fin 24) (x : Option Record) (j : Fin 4) : (s.setRecord r x).slot j = s.slot j := rfl
@[simp] theorem slotTimer_setRecord (s : State) (r : Fin 24) (x : Option Record) (j : Fin 4) : (s.setRecord r x).slotTimer j = s.slotTimer j := rfl
@[simp] theorem lockout_setRecord (s : State) (r : Fin 24) (x : Option Record) (j : Fin 8) : (s.setRecord r x).lockout j = s.lockout j := rfl
@[simp] theorem approach_setRecord (s : State) (r : Fin 24) (x : Option Record) (j : Fin 8) : (s.setRecord r x).approach j = s.approach j := rfl
@[simp] theorem partition_setRecord (s : State) (r : Fin 24) (x : Option Record) (q : Port) : (s.setRecord r x).partition q = s.partition q := by
  cases q <;> rfl
@[simp] theorem setRecord_pending (s : State) (r : Fin 24) (x : Option Record) : (s.setRecord r x).pending = s.pending := rfl
@[simp] theorem setRecord_freeCount (s : State) (r : Fin 24) (x : Option Record) : (s.setRecord r x).freeCount = s.freeCount := rfl
@[simp] theorem setRecord_rawStraps (s : State) (r : Fin 24) (x : Option Record) : (s.setRecord r x).rawStraps = s.rawStraps := rfl
@[simp] theorem setRecord_address (s : State) (r : Fin 24) (x : Option Record) : (s.setRecord r x).address = s.address := rfl
@[simp] theorem setRecord_mode (s : State) (r : Fin 24) (x : Option Record) : (s.setRecord r x).mode = s.mode := rfl
@[simp] theorem setRecord_corridorTime (s : State) (r : Fin 24) (x : Option Record) : (s.setRecord r x).corridorTime = s.corridorTime := rfl
@[simp] theorem setRecord_timeSet (s : State) (r : Fin 24) (x : Option Record) : (s.setRecord r x).timeSet = s.timeSet := rfl
@[simp] theorem setRecord_portA (s : State) (r : Fin 24) (x : Option Record) : (s.setRecord r x).portA = s.portA := rfl
@[simp] theorem setRecord_portB (s : State) (r : Fin 24) (x : Option Record) : (s.setRecord r x).portB = s.portB := rfl
@[simp] theorem setRecord_inbound (s : State) (r : Fin 24) (x : Option Record) : (s.setRecord r x).inbound = s.inbound := rfl
@[simp] theorem setRecord_lines (s : State) (r : Fin 24) (x : Option Record) : (s.setRecord r x).lines = s.lines := rfl
@[simp] theorem setRecord_reportPointer (s : State) (r : Fin 24) (x : Option Record) : (s.setRecord r x).reportPointer = s.reportPointer := rfl
@[simp] theorem setRecord_approaches (s : State) (r : Fin 24) (x : Option Record) : (s.setRecord r x).approaches = s.approaches := rfl
@[simp] theorem setRecord_approachGens (s : State) (r : Fin 24) (x : Option Record) : (s.setRecord r x).approachGens = s.approachGens := rfl
@[simp] theorem setRecord_routes (s : State) (r : Fin 24) (x : Option Record) : (s.setRecord r x).routes = s.routes := rfl
@[simp] theorem setRecord_routeGens (s : State) (r : Fin 24) (x : Option Record) : (s.setRecord r x).routeGens = s.routeGens := rfl
@[simp] theorem setRecord_conflicts (s : State) (r : Fin 24) (x : Option Record) : (s.setRecord r x).conflicts = s.conflicts := rfl
@[simp] theorem setRecord_params (s : State) (r : Fin 24) (x : Option Record) : (s.setRecord r x).params = s.params := rfl
@[simp] theorem setRecord_tableGens (s : State) (r : Fin 24) (x : Option Record) : (s.setRecord r x).tableGens = s.tableGens := rfl
@[simp] theorem setRecord_slots (s : State) (r : Fin 24) (x : Option Record) : (s.setRecord r x).slots = s.slots := rfl
@[simp] theorem setRecord_nextCall (s : State) (r : Fin 24) (x : Option Record) : (s.setRecord r x).nextCall = s.nextCall := rfl
@[simp] theorem setRecord_lockouts (s : State) (r : Fin 24) (x : Option Record) : (s.setRecord r x).lockouts = s.lockouts := rfl
@[simp] theorem setRecord_evalDue (s : State) (r : Fin 24) (x : Option Record) : (s.setRecord r x).evalDue = s.evalDue := rfl
@[simp] theorem setRecord_controller (s : State) (r : Fin 24) (x : Option Record) : (s.setRecord r x).controller = s.controller := rfl
@[simp] theorem setRecord_msgReceiver (s : State) (r : Fin 24) (x : Option Record) : (s.setRecord r x).msgReceiver = s.msgReceiver := rfl
@[simp] theorem setRecord_output (s : State) (r : Fin 24) (x : Option Record) : (s.setRecord r x).output = s.output := rfl
@[simp] theorem setRecord_slotTimers (s : State) (r : Fin 24) (x : Option Record) : (s.setRecord r x).slotTimers = s.slotTimers := rfl
@[simp] theorem setRecord_counters (s : State) (r : Fin 24) (x : Option Record) : (s.setRecord r x).counters = s.counters := rfl
@[simp] theorem setRecord_rollover (s : State) (r : Fin 24) (x : Option Record) : (s.setRecord r x).rollover = s.rollover := rfl
@[simp] theorem setRecord_conditions (s : State) (r : Fin 24) (x : Option Record) : (s.setRecord r x).conditions = s.conditions := rfl
@[simp] theorem setRecord_alertCount (s : State) (r : Fin 24) (x : Option Record) : (s.setRecord r x).alertCount = s.alertCount := rfl
@[simp] theorem setRecord_alertDue (s : State) (r : Fin 24) (x : Option Record) : (s.setRecord r x).alertDue = s.alertDue := rfl

/-! ### A call slot replaced -/

@[simp] theorem slot_setSlot_same (s : State) (k : Fin 4) (x : CallSlot) : (s.setSlot k x).slot k = x := by
  simp [State.setSlot, State.slot]

theorem slot_setSlot_ne (s : State) (k : Fin 4) (x : CallSlot) (j : Fin 4) (h : j ≠ k) :
    (s.setSlot k x).slot j = s.slot j := by
  have hv : k.val ≠ j.val := fun e => h (Fin.ext e.symm)
  simp [State.setSlot, State.slot, Vector.getElem_set_ne, hv]

theorem slot_setSlot (s : State) (k : Fin 4) (x : CallSlot) (j : Fin 4) :
    (s.setSlot k x).slot j = if j = k then x else s.slot j := by
  by_cases h : j = k
  · subst h; simp
  · simp [h, slot_setSlot_ne]

@[simp] theorem setSlot_setSlot (s : State) (k : Fin 4) (x : CallSlot) (z : CallSlot) :
    (s.setSlot k x).setSlot k z = s.setSlot k z := by
  simp [State.setSlot]

@[simp] theorem port_setSlot (s : State) (k : Fin 4) (x : CallSlot) (q : Port) : (s.setSlot k x).port q = s.port q := by
  cases q <;> rfl
@[simp] theorem line_setSlot (s : State) (k : Fin 4) (x : CallSlot) (j : Fin 8) : (s.setSlot k x).line j = s.line j := rfl
@[simp] theorem record_setSlot (s : State) (k : Fin 4) (x : CallSlot) (j : Fin 24) : (s.setSlot k x).record j = s.record j := rfl
@[simp] theorem slotTimer_setSlot (s : State) (k : Fin 4) (x : CallSlot) (j : Fin 4) : (s.setSlot k x).slotTimer j = s.slotTimer j := rfl
@[simp] theorem lockout_setSlot (s : State) (k : Fin 4) (x : CallSlot) (j : Fin 8) : (s.setSlot k x).lockout j = s.lockout j := rfl
@[simp] theorem approach_setSlot (s : State) (k : Fin 4) (x : CallSlot) (j : Fin 8) : (s.setSlot k x).approach j = s.approach j := rfl
@[simp] theorem partition_setSlot (s : State) (k : Fin 4) (x : CallSlot) (q : Port) : (s.setSlot k x).partition q = s.partition q := by
  cases q <;> rfl
@[simp] theorem setSlot_pending (s : State) (k : Fin 4) (x : CallSlot) : (s.setSlot k x).pending = s.pending := rfl
@[simp] theorem setSlot_freeCount (s : State) (k : Fin 4) (x : CallSlot) : (s.setSlot k x).freeCount = s.freeCount := rfl
@[simp] theorem setSlot_rawStraps (s : State) (k : Fin 4) (x : CallSlot) : (s.setSlot k x).rawStraps = s.rawStraps := rfl
@[simp] theorem setSlot_address (s : State) (k : Fin 4) (x : CallSlot) : (s.setSlot k x).address = s.address := rfl
@[simp] theorem setSlot_mode (s : State) (k : Fin 4) (x : CallSlot) : (s.setSlot k x).mode = s.mode := rfl
@[simp] theorem setSlot_corridorTime (s : State) (k : Fin 4) (x : CallSlot) : (s.setSlot k x).corridorTime = s.corridorTime := rfl
@[simp] theorem setSlot_timeSet (s : State) (k : Fin 4) (x : CallSlot) : (s.setSlot k x).timeSet = s.timeSet := rfl
@[simp] theorem setSlot_portA (s : State) (k : Fin 4) (x : CallSlot) : (s.setSlot k x).portA = s.portA := rfl
@[simp] theorem setSlot_portB (s : State) (k : Fin 4) (x : CallSlot) : (s.setSlot k x).portB = s.portB := rfl
@[simp] theorem setSlot_inbound (s : State) (k : Fin 4) (x : CallSlot) : (s.setSlot k x).inbound = s.inbound := rfl
@[simp] theorem setSlot_lines (s : State) (k : Fin 4) (x : CallSlot) : (s.setSlot k x).lines = s.lines := rfl
@[simp] theorem setSlot_reportPointer (s : State) (k : Fin 4) (x : CallSlot) : (s.setSlot k x).reportPointer = s.reportPointer := rfl
@[simp] theorem setSlot_approaches (s : State) (k : Fin 4) (x : CallSlot) : (s.setSlot k x).approaches = s.approaches := rfl
@[simp] theorem setSlot_approachGens (s : State) (k : Fin 4) (x : CallSlot) : (s.setSlot k x).approachGens = s.approachGens := rfl
@[simp] theorem setSlot_routes (s : State) (k : Fin 4) (x : CallSlot) : (s.setSlot k x).routes = s.routes := rfl
@[simp] theorem setSlot_routeGens (s : State) (k : Fin 4) (x : CallSlot) : (s.setSlot k x).routeGens = s.routeGens := rfl
@[simp] theorem setSlot_conflicts (s : State) (k : Fin 4) (x : CallSlot) : (s.setSlot k x).conflicts = s.conflicts := rfl
@[simp] theorem setSlot_params (s : State) (k : Fin 4) (x : CallSlot) : (s.setSlot k x).params = s.params := rfl
@[simp] theorem setSlot_tableGens (s : State) (k : Fin 4) (x : CallSlot) : (s.setSlot k x).tableGens = s.tableGens := rfl
@[simp] theorem setSlot_records (s : State) (k : Fin 4) (x : CallSlot) : (s.setSlot k x).records = s.records := rfl
@[simp] theorem setSlot_nextCall (s : State) (k : Fin 4) (x : CallSlot) : (s.setSlot k x).nextCall = s.nextCall := rfl
@[simp] theorem setSlot_lockouts (s : State) (k : Fin 4) (x : CallSlot) : (s.setSlot k x).lockouts = s.lockouts := rfl
@[simp] theorem setSlot_evalDue (s : State) (k : Fin 4) (x : CallSlot) : (s.setSlot k x).evalDue = s.evalDue := rfl
@[simp] theorem setSlot_controller (s : State) (k : Fin 4) (x : CallSlot) : (s.setSlot k x).controller = s.controller := rfl
@[simp] theorem setSlot_msgReceiver (s : State) (k : Fin 4) (x : CallSlot) : (s.setSlot k x).msgReceiver = s.msgReceiver := rfl
@[simp] theorem setSlot_output (s : State) (k : Fin 4) (x : CallSlot) : (s.setSlot k x).output = s.output := rfl
@[simp] theorem setSlot_slotTimers (s : State) (k : Fin 4) (x : CallSlot) : (s.setSlot k x).slotTimers = s.slotTimers := rfl
@[simp] theorem setSlot_counters (s : State) (k : Fin 4) (x : CallSlot) : (s.setSlot k x).counters = s.counters := rfl
@[simp] theorem setSlot_rollover (s : State) (k : Fin 4) (x : CallSlot) : (s.setSlot k x).rollover = s.rollover := rfl
@[simp] theorem setSlot_conditions (s : State) (k : Fin 4) (x : CallSlot) : (s.setSlot k x).conditions = s.conditions := rfl
@[simp] theorem setSlot_alertCount (s : State) (k : Fin 4) (x : CallSlot) : (s.setSlot k x).alertCount = s.alertCount := rfl
@[simp] theorem setSlot_alertDue (s : State) (k : Fin 4) (x : CallSlot) : (s.setSlot k x).alertDue = s.alertDue := rfl

/-! ### A slot timer written -/

@[simp] theorem slotTimer_setSlotTimer_same (s : State) (k : Fin 4) (t : Option SlotTimer) : (s.setSlotTimer k t).slotTimer k = t := by
  simp [State.setSlotTimer, State.slotTimer]

theorem slotTimer_setSlotTimer_ne (s : State) (k : Fin 4) (t : Option SlotTimer) (j : Fin 4) (h : j ≠ k) :
    (s.setSlotTimer k t).slotTimer j = s.slotTimer j := by
  have hv : k.val ≠ j.val := fun e => h (Fin.ext e.symm)
  simp [State.setSlotTimer, State.slotTimer, Vector.getElem_set_ne, hv]

theorem slotTimer_setSlotTimer (s : State) (k : Fin 4) (t : Option SlotTimer) (j : Fin 4) :
    (s.setSlotTimer k t).slotTimer j = if j = k then t else s.slotTimer j := by
  by_cases h : j = k
  · subst h; simp
  · simp [h, slotTimer_setSlotTimer_ne]

@[simp] theorem setSlotTimer_setSlotTimer (s : State) (k : Fin 4) (t : Option SlotTimer) (z : Option SlotTimer) :
    (s.setSlotTimer k t).setSlotTimer k z = s.setSlotTimer k z := by
  simp [State.setSlotTimer]

@[simp] theorem port_setSlotTimer (s : State) (k : Fin 4) (t : Option SlotTimer) (q : Port) : (s.setSlotTimer k t).port q = s.port q := by
  cases q <;> rfl
@[simp] theorem line_setSlotTimer (s : State) (k : Fin 4) (t : Option SlotTimer) (j : Fin 8) : (s.setSlotTimer k t).line j = s.line j := rfl
@[simp] theorem record_setSlotTimer (s : State) (k : Fin 4) (t : Option SlotTimer) (j : Fin 24) : (s.setSlotTimer k t).record j = s.record j := rfl
@[simp] theorem slot_setSlotTimer (s : State) (k : Fin 4) (t : Option SlotTimer) (j : Fin 4) : (s.setSlotTimer k t).slot j = s.slot j := rfl
@[simp] theorem lockout_setSlotTimer (s : State) (k : Fin 4) (t : Option SlotTimer) (j : Fin 8) : (s.setSlotTimer k t).lockout j = s.lockout j := rfl
@[simp] theorem approach_setSlotTimer (s : State) (k : Fin 4) (t : Option SlotTimer) (j : Fin 8) : (s.setSlotTimer k t).approach j = s.approach j := rfl
@[simp] theorem partition_setSlotTimer (s : State) (k : Fin 4) (t : Option SlotTimer) (q : Port) : (s.setSlotTimer k t).partition q = s.partition q := by
  cases q <;> rfl
@[simp] theorem setSlotTimer_pending (s : State) (k : Fin 4) (t : Option SlotTimer) : (s.setSlotTimer k t).pending = s.pending := rfl
@[simp] theorem setSlotTimer_freeCount (s : State) (k : Fin 4) (t : Option SlotTimer) : (s.setSlotTimer k t).freeCount = s.freeCount := rfl
@[simp] theorem setSlotTimer_rawStraps (s : State) (k : Fin 4) (t : Option SlotTimer) : (s.setSlotTimer k t).rawStraps = s.rawStraps := rfl
@[simp] theorem setSlotTimer_address (s : State) (k : Fin 4) (t : Option SlotTimer) : (s.setSlotTimer k t).address = s.address := rfl
@[simp] theorem setSlotTimer_mode (s : State) (k : Fin 4) (t : Option SlotTimer) : (s.setSlotTimer k t).mode = s.mode := rfl
@[simp] theorem setSlotTimer_corridorTime (s : State) (k : Fin 4) (t : Option SlotTimer) : (s.setSlotTimer k t).corridorTime = s.corridorTime := rfl
@[simp] theorem setSlotTimer_timeSet (s : State) (k : Fin 4) (t : Option SlotTimer) : (s.setSlotTimer k t).timeSet = s.timeSet := rfl
@[simp] theorem setSlotTimer_portA (s : State) (k : Fin 4) (t : Option SlotTimer) : (s.setSlotTimer k t).portA = s.portA := rfl
@[simp] theorem setSlotTimer_portB (s : State) (k : Fin 4) (t : Option SlotTimer) : (s.setSlotTimer k t).portB = s.portB := rfl
@[simp] theorem setSlotTimer_inbound (s : State) (k : Fin 4) (t : Option SlotTimer) : (s.setSlotTimer k t).inbound = s.inbound := rfl
@[simp] theorem setSlotTimer_lines (s : State) (k : Fin 4) (t : Option SlotTimer) : (s.setSlotTimer k t).lines = s.lines := rfl
@[simp] theorem setSlotTimer_reportPointer (s : State) (k : Fin 4) (t : Option SlotTimer) : (s.setSlotTimer k t).reportPointer = s.reportPointer := rfl
@[simp] theorem setSlotTimer_approaches (s : State) (k : Fin 4) (t : Option SlotTimer) : (s.setSlotTimer k t).approaches = s.approaches := rfl
@[simp] theorem setSlotTimer_approachGens (s : State) (k : Fin 4) (t : Option SlotTimer) : (s.setSlotTimer k t).approachGens = s.approachGens := rfl
@[simp] theorem setSlotTimer_routes (s : State) (k : Fin 4) (t : Option SlotTimer) : (s.setSlotTimer k t).routes = s.routes := rfl
@[simp] theorem setSlotTimer_routeGens (s : State) (k : Fin 4) (t : Option SlotTimer) : (s.setSlotTimer k t).routeGens = s.routeGens := rfl
@[simp] theorem setSlotTimer_conflicts (s : State) (k : Fin 4) (t : Option SlotTimer) : (s.setSlotTimer k t).conflicts = s.conflicts := rfl
@[simp] theorem setSlotTimer_params (s : State) (k : Fin 4) (t : Option SlotTimer) : (s.setSlotTimer k t).params = s.params := rfl
@[simp] theorem setSlotTimer_tableGens (s : State) (k : Fin 4) (t : Option SlotTimer) : (s.setSlotTimer k t).tableGens = s.tableGens := rfl
@[simp] theorem setSlotTimer_records (s : State) (k : Fin 4) (t : Option SlotTimer) : (s.setSlotTimer k t).records = s.records := rfl
@[simp] theorem setSlotTimer_slots (s : State) (k : Fin 4) (t : Option SlotTimer) : (s.setSlotTimer k t).slots = s.slots := rfl
@[simp] theorem setSlotTimer_nextCall (s : State) (k : Fin 4) (t : Option SlotTimer) : (s.setSlotTimer k t).nextCall = s.nextCall := rfl
@[simp] theorem setSlotTimer_lockouts (s : State) (k : Fin 4) (t : Option SlotTimer) : (s.setSlotTimer k t).lockouts = s.lockouts := rfl
@[simp] theorem setSlotTimer_evalDue (s : State) (k : Fin 4) (t : Option SlotTimer) : (s.setSlotTimer k t).evalDue = s.evalDue := rfl
@[simp] theorem setSlotTimer_controller (s : State) (k : Fin 4) (t : Option SlotTimer) : (s.setSlotTimer k t).controller = s.controller := rfl
@[simp] theorem setSlotTimer_msgReceiver (s : State) (k : Fin 4) (t : Option SlotTimer) : (s.setSlotTimer k t).msgReceiver = s.msgReceiver := rfl
@[simp] theorem setSlotTimer_output (s : State) (k : Fin 4) (t : Option SlotTimer) : (s.setSlotTimer k t).output = s.output := rfl
@[simp] theorem setSlotTimer_counters (s : State) (k : Fin 4) (t : Option SlotTimer) : (s.setSlotTimer k t).counters = s.counters := rfl
@[simp] theorem setSlotTimer_rollover (s : State) (k : Fin 4) (t : Option SlotTimer) : (s.setSlotTimer k t).rollover = s.rollover := rfl
@[simp] theorem setSlotTimer_conditions (s : State) (k : Fin 4) (t : Option SlotTimer) : (s.setSlotTimer k t).conditions = s.conditions := rfl
@[simp] theorem setSlotTimer_alertCount (s : State) (k : Fin 4) (t : Option SlotTimer) : (s.setSlotTimer k t).alertCount = s.alertCount := rfl
@[simp] theorem setSlotTimer_alertDue (s : State) (k : Fin 4) (t : Option SlotTimer) : (s.setSlotTimer k t).alertDue = s.alertDue := rfl

/-! ### A lockout written -/

@[simp] theorem lockout_setLockout_same (s : State) (ap : Fin 8) (t : Option Nat) : (s.setLockout ap t).lockout ap = t := by
  simp [State.setLockout, State.lockout]

theorem lockout_setLockout_ne (s : State) (ap : Fin 8) (t : Option Nat) (j : Fin 8) (h : j ≠ ap) :
    (s.setLockout ap t).lockout j = s.lockout j := by
  have hv : ap.val ≠ j.val := fun e => h (Fin.ext e.symm)
  simp [State.setLockout, State.lockout, Vector.getElem_set_ne, hv]

theorem lockout_setLockout (s : State) (ap : Fin 8) (t : Option Nat) (j : Fin 8) :
    (s.setLockout ap t).lockout j = if j = ap then t else s.lockout j := by
  by_cases h : j = ap
  · subst h; simp
  · simp [h, lockout_setLockout_ne]

@[simp] theorem setLockout_setLockout (s : State) (ap : Fin 8) (t : Option Nat) (z : Option Nat) :
    (s.setLockout ap t).setLockout ap z = s.setLockout ap z := by
  simp [State.setLockout]

@[simp] theorem port_setLockout (s : State) (ap : Fin 8) (t : Option Nat) (q : Port) : (s.setLockout ap t).port q = s.port q := by
  cases q <;> rfl
@[simp] theorem line_setLockout (s : State) (ap : Fin 8) (t : Option Nat) (j : Fin 8) : (s.setLockout ap t).line j = s.line j := rfl
@[simp] theorem record_setLockout (s : State) (ap : Fin 8) (t : Option Nat) (j : Fin 24) : (s.setLockout ap t).record j = s.record j := rfl
@[simp] theorem slot_setLockout (s : State) (ap : Fin 8) (t : Option Nat) (j : Fin 4) : (s.setLockout ap t).slot j = s.slot j := rfl
@[simp] theorem slotTimer_setLockout (s : State) (ap : Fin 8) (t : Option Nat) (j : Fin 4) : (s.setLockout ap t).slotTimer j = s.slotTimer j := rfl
@[simp] theorem approach_setLockout (s : State) (ap : Fin 8) (t : Option Nat) (j : Fin 8) : (s.setLockout ap t).approach j = s.approach j := rfl
@[simp] theorem partition_setLockout (s : State) (ap : Fin 8) (t : Option Nat) (q : Port) : (s.setLockout ap t).partition q = s.partition q := by
  cases q <;> rfl
@[simp] theorem setLockout_pending (s : State) (ap : Fin 8) (t : Option Nat) : (s.setLockout ap t).pending = s.pending := rfl
@[simp] theorem setLockout_freeCount (s : State) (ap : Fin 8) (t : Option Nat) : (s.setLockout ap t).freeCount = s.freeCount := rfl
@[simp] theorem setLockout_rawStraps (s : State) (ap : Fin 8) (t : Option Nat) : (s.setLockout ap t).rawStraps = s.rawStraps := rfl
@[simp] theorem setLockout_address (s : State) (ap : Fin 8) (t : Option Nat) : (s.setLockout ap t).address = s.address := rfl
@[simp] theorem setLockout_mode (s : State) (ap : Fin 8) (t : Option Nat) : (s.setLockout ap t).mode = s.mode := rfl
@[simp] theorem setLockout_corridorTime (s : State) (ap : Fin 8) (t : Option Nat) : (s.setLockout ap t).corridorTime = s.corridorTime := rfl
@[simp] theorem setLockout_timeSet (s : State) (ap : Fin 8) (t : Option Nat) : (s.setLockout ap t).timeSet = s.timeSet := rfl
@[simp] theorem setLockout_portA (s : State) (ap : Fin 8) (t : Option Nat) : (s.setLockout ap t).portA = s.portA := rfl
@[simp] theorem setLockout_portB (s : State) (ap : Fin 8) (t : Option Nat) : (s.setLockout ap t).portB = s.portB := rfl
@[simp] theorem setLockout_inbound (s : State) (ap : Fin 8) (t : Option Nat) : (s.setLockout ap t).inbound = s.inbound := rfl
@[simp] theorem setLockout_lines (s : State) (ap : Fin 8) (t : Option Nat) : (s.setLockout ap t).lines = s.lines := rfl
@[simp] theorem setLockout_reportPointer (s : State) (ap : Fin 8) (t : Option Nat) : (s.setLockout ap t).reportPointer = s.reportPointer := rfl
@[simp] theorem setLockout_approaches (s : State) (ap : Fin 8) (t : Option Nat) : (s.setLockout ap t).approaches = s.approaches := rfl
@[simp] theorem setLockout_approachGens (s : State) (ap : Fin 8) (t : Option Nat) : (s.setLockout ap t).approachGens = s.approachGens := rfl
@[simp] theorem setLockout_routes (s : State) (ap : Fin 8) (t : Option Nat) : (s.setLockout ap t).routes = s.routes := rfl
@[simp] theorem setLockout_routeGens (s : State) (ap : Fin 8) (t : Option Nat) : (s.setLockout ap t).routeGens = s.routeGens := rfl
@[simp] theorem setLockout_conflicts (s : State) (ap : Fin 8) (t : Option Nat) : (s.setLockout ap t).conflicts = s.conflicts := rfl
@[simp] theorem setLockout_params (s : State) (ap : Fin 8) (t : Option Nat) : (s.setLockout ap t).params = s.params := rfl
@[simp] theorem setLockout_tableGens (s : State) (ap : Fin 8) (t : Option Nat) : (s.setLockout ap t).tableGens = s.tableGens := rfl
@[simp] theorem setLockout_records (s : State) (ap : Fin 8) (t : Option Nat) : (s.setLockout ap t).records = s.records := rfl
@[simp] theorem setLockout_slots (s : State) (ap : Fin 8) (t : Option Nat) : (s.setLockout ap t).slots = s.slots := rfl
@[simp] theorem setLockout_nextCall (s : State) (ap : Fin 8) (t : Option Nat) : (s.setLockout ap t).nextCall = s.nextCall := rfl
@[simp] theorem setLockout_evalDue (s : State) (ap : Fin 8) (t : Option Nat) : (s.setLockout ap t).evalDue = s.evalDue := rfl
@[simp] theorem setLockout_controller (s : State) (ap : Fin 8) (t : Option Nat) : (s.setLockout ap t).controller = s.controller := rfl
@[simp] theorem setLockout_msgReceiver (s : State) (ap : Fin 8) (t : Option Nat) : (s.setLockout ap t).msgReceiver = s.msgReceiver := rfl
@[simp] theorem setLockout_output (s : State) (ap : Fin 8) (t : Option Nat) : (s.setLockout ap t).output = s.output := rfl
@[simp] theorem setLockout_slotTimers (s : State) (ap : Fin 8) (t : Option Nat) : (s.setLockout ap t).slotTimers = s.slotTimers := rfl
@[simp] theorem setLockout_counters (s : State) (ap : Fin 8) (t : Option Nat) : (s.setLockout ap t).counters = s.counters := rfl
@[simp] theorem setLockout_rollover (s : State) (ap : Fin 8) (t : Option Nat) : (s.setLockout ap t).rollover = s.rollover := rfl
@[simp] theorem setLockout_conditions (s : State) (ap : Fin 8) (t : Option Nat) : (s.setLockout ap t).conditions = s.conditions := rfl
@[simp] theorem setLockout_alertCount (s : State) (ap : Fin 8) (t : Option Nat) : (s.setLockout ap t).alertCount = s.alertCount := rfl
@[simp] theorem setLockout_alertDue (s : State) (ap : Fin 8) (t : Option Nat) : (s.setLockout ap t).alertDue = s.alertDue := rfl

/-! ### The controller status replaced -/

@[simp] theorem port_setController (s : State) (c : Controller) (q : Port) : (s.setController c).port q = s.port q := by
  cases q <;> rfl
@[simp] theorem line_setController (s : State) (c : Controller) (j : Fin 8) : (s.setController c).line j = s.line j := rfl
@[simp] theorem record_setController (s : State) (c : Controller) (j : Fin 24) : (s.setController c).record j = s.record j := rfl
@[simp] theorem slot_setController (s : State) (c : Controller) (j : Fin 4) : (s.setController c).slot j = s.slot j := rfl
@[simp] theorem slotTimer_setController (s : State) (c : Controller) (j : Fin 4) : (s.setController c).slotTimer j = s.slotTimer j := rfl
@[simp] theorem lockout_setController (s : State) (c : Controller) (j : Fin 8) : (s.setController c).lockout j = s.lockout j := rfl
@[simp] theorem approach_setController (s : State) (c : Controller) (j : Fin 8) : (s.setController c).approach j = s.approach j := rfl
@[simp] theorem partition_setController (s : State) (c : Controller) (q : Port) : (s.setController c).partition q = s.partition q := by
  cases q <;> rfl
@[simp] theorem setController_pending (s : State) (c : Controller) : (s.setController c).pending = s.pending := rfl
@[simp] theorem setController_freeCount (s : State) (c : Controller) : (s.setController c).freeCount = s.freeCount := rfl
@[simp] theorem setController_rawStraps (s : State) (c : Controller) : (s.setController c).rawStraps = s.rawStraps := rfl
@[simp] theorem setController_address (s : State) (c : Controller) : (s.setController c).address = s.address := rfl
@[simp] theorem setController_mode (s : State) (c : Controller) : (s.setController c).mode = s.mode := rfl
@[simp] theorem setController_corridorTime (s : State) (c : Controller) : (s.setController c).corridorTime = s.corridorTime := rfl
@[simp] theorem setController_timeSet (s : State) (c : Controller) : (s.setController c).timeSet = s.timeSet := rfl
@[simp] theorem setController_portA (s : State) (c : Controller) : (s.setController c).portA = s.portA := rfl
@[simp] theorem setController_portB (s : State) (c : Controller) : (s.setController c).portB = s.portB := rfl
@[simp] theorem setController_inbound (s : State) (c : Controller) : (s.setController c).inbound = s.inbound := rfl
@[simp] theorem setController_lines (s : State) (c : Controller) : (s.setController c).lines = s.lines := rfl
@[simp] theorem setController_reportPointer (s : State) (c : Controller) : (s.setController c).reportPointer = s.reportPointer := rfl
@[simp] theorem setController_approaches (s : State) (c : Controller) : (s.setController c).approaches = s.approaches := rfl
@[simp] theorem setController_approachGens (s : State) (c : Controller) : (s.setController c).approachGens = s.approachGens := rfl
@[simp] theorem setController_routes (s : State) (c : Controller) : (s.setController c).routes = s.routes := rfl
@[simp] theorem setController_routeGens (s : State) (c : Controller) : (s.setController c).routeGens = s.routeGens := rfl
@[simp] theorem setController_conflicts (s : State) (c : Controller) : (s.setController c).conflicts = s.conflicts := rfl
@[simp] theorem setController_params (s : State) (c : Controller) : (s.setController c).params = s.params := rfl
@[simp] theorem setController_tableGens (s : State) (c : Controller) : (s.setController c).tableGens = s.tableGens := rfl
@[simp] theorem setController_records (s : State) (c : Controller) : (s.setController c).records = s.records := rfl
@[simp] theorem setController_slots (s : State) (c : Controller) : (s.setController c).slots = s.slots := rfl
@[simp] theorem setController_nextCall (s : State) (c : Controller) : (s.setController c).nextCall = s.nextCall := rfl
@[simp] theorem setController_lockouts (s : State) (c : Controller) : (s.setController c).lockouts = s.lockouts := rfl
@[simp] theorem setController_evalDue (s : State) (c : Controller) : (s.setController c).evalDue = s.evalDue := rfl
@[simp] theorem setController_msgReceiver (s : State) (c : Controller) : (s.setController c).msgReceiver = s.msgReceiver := rfl
@[simp] theorem setController_output (s : State) (c : Controller) : (s.setController c).output = s.output := rfl
@[simp] theorem setController_slotTimers (s : State) (c : Controller) : (s.setController c).slotTimers = s.slotTimers := rfl
@[simp] theorem setController_counters (s : State) (c : Controller) : (s.setController c).counters = s.counters := rfl
@[simp] theorem setController_rollover (s : State) (c : Controller) : (s.setController c).rollover = s.rollover := rfl
@[simp] theorem setController_conditions (s : State) (c : Controller) : (s.setController c).conditions = s.conditions := rfl
@[simp] theorem setController_alertCount (s : State) (c : Controller) : (s.setController c).alertCount = s.alertCount := rfl
@[simp] theorem setController_alertDue (s : State) (c : Controller) : (s.setController c).alertDue = s.alertDue := rfl

/-! ### The other reads after a port is replaced -/

@[simp] theorem line_setPort (s : State) (p : Port) (x : PortState) (j : Fin 8) :
    (s.setPort p x).line j = s.line j := by
  cases p <;> rfl
@[simp] theorem record_setPort (s : State) (p : Port) (x : PortState) (j : Fin 24) :
    (s.setPort p x).record j = s.record j := by
  cases p <;> rfl
@[simp] theorem slot_setPort (s : State) (p : Port) (x : PortState) (j : Fin 4) :
    (s.setPort p x).slot j = s.slot j := by
  cases p <;> rfl
@[simp] theorem slotTimer_setPort (s : State) (p : Port) (x : PortState) (j : Fin 4) :
    (s.setPort p x).slotTimer j = s.slotTimer j := by
  cases p <;> rfl
@[simp] theorem lockout_setPort (s : State) (p : Port) (x : PortState) (j : Fin 8) :
    (s.setPort p x).lockout j = s.lockout j := by
  cases p <;> rfl
@[simp] theorem approach_setPort (s : State) (p : Port) (x : PortState) (j : Fin 8) :
    (s.setPort p x).approach j = s.approach j := by
  cases p <;> rfl
@[simp] theorem partition_setPort (s : State) (p : Port) (x : PortState) (q : Port) :
    (s.setPort p x).partition q = s.partition q := by
  cases p <;> cases q <;> rfl

end Sys2Proof.Laws
end

