-- ==== Sys2Proof/Laws/Ops.lean ====
section
/-! SUPPORT. Everything each shared operation can change, said once (its frame), and what each field it leaves reads after
it. -/

namespace Sys2Proof.Laws

open Sys2Proof.Machine

/-- Raising writes the conditions and the mark of an ALERT owed. -/
theorem raise_frame (s : State) (c : Condition) :
    s.raise c =
      { s with conditions := (s.raise c).conditions, alertDue := (s.raise c).alertDue } := by
  unfold State.raise
  split <;> rfl

@[simp] theorem raise_pending (s : State) (c : Condition) : (s.raise c).pending = s.pending := by rw [raise_frame]
@[simp] theorem raise_freeCount (s : State) (c : Condition) : (s.raise c).freeCount = s.freeCount := by rw [raise_frame]
@[simp] theorem raise_rawStraps (s : State) (c : Condition) : (s.raise c).rawStraps = s.rawStraps := by rw [raise_frame]
@[simp] theorem raise_address (s : State) (c : Condition) : (s.raise c).address = s.address := by rw [raise_frame]
@[simp] theorem raise_mode (s : State) (c : Condition) : (s.raise c).mode = s.mode := by rw [raise_frame]
@[simp] theorem raise_corridorTime (s : State) (c : Condition) : (s.raise c).corridorTime = s.corridorTime := by rw [raise_frame]
@[simp] theorem raise_timeSet (s : State) (c : Condition) : (s.raise c).timeSet = s.timeSet := by rw [raise_frame]
@[simp] theorem raise_portA (s : State) (c : Condition) : (s.raise c).portA = s.portA := by rw [raise_frame]
@[simp] theorem raise_portB (s : State) (c : Condition) : (s.raise c).portB = s.portB := by rw [raise_frame]
@[simp] theorem raise_inbound (s : State) (c : Condition) : (s.raise c).inbound = s.inbound := by rw [raise_frame]
@[simp] theorem raise_lines (s : State) (c : Condition) : (s.raise c).lines = s.lines := by rw [raise_frame]
@[simp] theorem raise_reportPointer (s : State) (c : Condition) : (s.raise c).reportPointer = s.reportPointer := by rw [raise_frame]
@[simp] theorem raise_approaches (s : State) (c : Condition) : (s.raise c).approaches = s.approaches := by rw [raise_frame]
@[simp] theorem raise_approachGens (s : State) (c : Condition) : (s.raise c).approachGens = s.approachGens := by rw [raise_frame]
@[simp] theorem raise_routes (s : State) (c : Condition) : (s.raise c).routes = s.routes := by rw [raise_frame]
@[simp] theorem raise_routeGens (s : State) (c : Condition) : (s.raise c).routeGens = s.routeGens := by rw [raise_frame]
@[simp] theorem raise_conflicts (s : State) (c : Condition) : (s.raise c).conflicts = s.conflicts := by rw [raise_frame]
@[simp] theorem raise_params (s : State) (c : Condition) : (s.raise c).params = s.params := by rw [raise_frame]
@[simp] theorem raise_tableGens (s : State) (c : Condition) : (s.raise c).tableGens = s.tableGens := by rw [raise_frame]
@[simp] theorem raise_records (s : State) (c : Condition) : (s.raise c).records = s.records := by rw [raise_frame]
@[simp] theorem raise_slots (s : State) (c : Condition) : (s.raise c).slots = s.slots := by rw [raise_frame]
@[simp] theorem raise_nextCall (s : State) (c : Condition) : (s.raise c).nextCall = s.nextCall := by rw [raise_frame]
@[simp] theorem raise_lockouts (s : State) (c : Condition) : (s.raise c).lockouts = s.lockouts := by rw [raise_frame]
@[simp] theorem raise_evalDue (s : State) (c : Condition) : (s.raise c).evalDue = s.evalDue := by rw [raise_frame]
@[simp] theorem raise_controller (s : State) (c : Condition) : (s.raise c).controller = s.controller := by rw [raise_frame]
@[simp] theorem raise_msgReceiver (s : State) (c : Condition) : (s.raise c).msgReceiver = s.msgReceiver := by rw [raise_frame]
@[simp] theorem raise_output (s : State) (c : Condition) : (s.raise c).output = s.output := by rw [raise_frame]
@[simp] theorem raise_slotTimers (s : State) (c : Condition) : (s.raise c).slotTimers = s.slotTimers := by rw [raise_frame]
@[simp] theorem raise_counters (s : State) (c : Condition) : (s.raise c).counters = s.counters := by rw [raise_frame]
@[simp] theorem raise_rollover (s : State) (c : Condition) : (s.raise c).rollover = s.rollover := by rw [raise_frame]
@[simp] theorem raise_alertCount (s : State) (c : Condition) : (s.raise c).alertCount = s.alertCount := by rw [raise_frame]

/-- Counting writes the counters, and at a wrap a rollover flag and what COUNTER_ROLLOVER raises. -/
theorem count_frame (s : State) (ref : CounterRef) :
    s.count ref =
      { s with counters := (s.count ref).counters,
               rollover := (s.count ref).rollover,
               conditions := (s.count ref).conditions,
               alertDue := (s.count ref).alertDue } := by
  unfold State.count
  dsimp only
  split
  · split
    · rfl
    · rw [raise_frame]
  · rfl

@[simp] theorem count_pending (s : State) (ref : CounterRef) : (s.count ref).pending = s.pending := by rw [count_frame]
@[simp] theorem count_freeCount (s : State) (ref : CounterRef) : (s.count ref).freeCount = s.freeCount := by rw [count_frame]
@[simp] theorem count_rawStraps (s : State) (ref : CounterRef) : (s.count ref).rawStraps = s.rawStraps := by rw [count_frame]
@[simp] theorem count_address (s : State) (ref : CounterRef) : (s.count ref).address = s.address := by rw [count_frame]
@[simp] theorem count_mode (s : State) (ref : CounterRef) : (s.count ref).mode = s.mode := by rw [count_frame]
@[simp] theorem count_corridorTime (s : State) (ref : CounterRef) : (s.count ref).corridorTime = s.corridorTime := by rw [count_frame]
@[simp] theorem count_timeSet (s : State) (ref : CounterRef) : (s.count ref).timeSet = s.timeSet := by rw [count_frame]
@[simp] theorem count_portA (s : State) (ref : CounterRef) : (s.count ref).portA = s.portA := by rw [count_frame]
@[simp] theorem count_portB (s : State) (ref : CounterRef) : (s.count ref).portB = s.portB := by rw [count_frame]
@[simp] theorem count_inbound (s : State) (ref : CounterRef) : (s.count ref).inbound = s.inbound := by rw [count_frame]
@[simp] theorem count_lines (s : State) (ref : CounterRef) : (s.count ref).lines = s.lines := by rw [count_frame]
@[simp] theorem count_reportPointer (s : State) (ref : CounterRef) : (s.count ref).reportPointer = s.reportPointer := by rw [count_frame]
@[simp] theorem count_approaches (s : State) (ref : CounterRef) : (s.count ref).approaches = s.approaches := by rw [count_frame]
@[simp] theorem count_approachGens (s : State) (ref : CounterRef) : (s.count ref).approachGens = s.approachGens := by rw [count_frame]
@[simp] theorem count_routes (s : State) (ref : CounterRef) : (s.count ref).routes = s.routes := by rw [count_frame]
@[simp] theorem count_routeGens (s : State) (ref : CounterRef) : (s.count ref).routeGens = s.routeGens := by rw [count_frame]
@[simp] theorem count_conflicts (s : State) (ref : CounterRef) : (s.count ref).conflicts = s.conflicts := by rw [count_frame]
@[simp] theorem count_params (s : State) (ref : CounterRef) : (s.count ref).params = s.params := by rw [count_frame]
@[simp] theorem count_tableGens (s : State) (ref : CounterRef) : (s.count ref).tableGens = s.tableGens := by rw [count_frame]
@[simp] theorem count_records (s : State) (ref : CounterRef) : (s.count ref).records = s.records := by rw [count_frame]
@[simp] theorem count_slots (s : State) (ref : CounterRef) : (s.count ref).slots = s.slots := by rw [count_frame]
@[simp] theorem count_nextCall (s : State) (ref : CounterRef) : (s.count ref).nextCall = s.nextCall := by rw [count_frame]
@[simp] theorem count_lockouts (s : State) (ref : CounterRef) : (s.count ref).lockouts = s.lockouts := by rw [count_frame]
@[simp] theorem count_evalDue (s : State) (ref : CounterRef) : (s.count ref).evalDue = s.evalDue := by rw [count_frame]
@[simp] theorem count_controller (s : State) (ref : CounterRef) : (s.count ref).controller = s.controller := by rw [count_frame]
@[simp] theorem count_msgReceiver (s : State) (ref : CounterRef) : (s.count ref).msgReceiver = s.msgReceiver := by rw [count_frame]
@[simp] theorem count_output (s : State) (ref : CounterRef) : (s.count ref).output = s.output := by rw [count_frame]
@[simp] theorem count_slotTimers (s : State) (ref : CounterRef) : (s.count ref).slotTimers = s.slotTimers := by rw [count_frame]
@[simp] theorem count_alertCount (s : State) (ref : CounterRef) : (s.count ref).alertCount = s.alertCount := by rw [count_frame]

/-- Marking writes the evaluation-due mark. -/
theorem markDue_frame (s : State) :
    s.markDue =
      { s with evalDue := s.markDue.evalDue } := by
  unfold State.markDue
  split <;> rfl

@[simp] theorem markDue_pending (s : State) : s.markDue.pending = s.pending := by rw [markDue_frame]
@[simp] theorem markDue_freeCount (s : State) : s.markDue.freeCount = s.freeCount := by rw [markDue_frame]
@[simp] theorem markDue_rawStraps (s : State) : s.markDue.rawStraps = s.rawStraps := by rw [markDue_frame]
@[simp] theorem markDue_address (s : State) : s.markDue.address = s.address := by rw [markDue_frame]
@[simp] theorem markDue_mode (s : State) : s.markDue.mode = s.mode := by rw [markDue_frame]
@[simp] theorem markDue_corridorTime (s : State) : s.markDue.corridorTime = s.corridorTime := by rw [markDue_frame]
@[simp] theorem markDue_timeSet (s : State) : s.markDue.timeSet = s.timeSet := by rw [markDue_frame]
@[simp] theorem markDue_portA (s : State) : s.markDue.portA = s.portA := by rw [markDue_frame]
@[simp] theorem markDue_portB (s : State) : s.markDue.portB = s.portB := by rw [markDue_frame]
@[simp] theorem markDue_inbound (s : State) : s.markDue.inbound = s.inbound := by rw [markDue_frame]
@[simp] theorem markDue_lines (s : State) : s.markDue.lines = s.lines := by rw [markDue_frame]
@[simp] theorem markDue_reportPointer (s : State) : s.markDue.reportPointer = s.reportPointer := by rw [markDue_frame]
@[simp] theorem markDue_approaches (s : State) : s.markDue.approaches = s.approaches := by rw [markDue_frame]
@[simp] theorem markDue_approachGens (s : State) : s.markDue.approachGens = s.approachGens := by rw [markDue_frame]
@[simp] theorem markDue_routes (s : State) : s.markDue.routes = s.routes := by rw [markDue_frame]
@[simp] theorem markDue_routeGens (s : State) : s.markDue.routeGens = s.routeGens := by rw [markDue_frame]
@[simp] theorem markDue_conflicts (s : State) : s.markDue.conflicts = s.conflicts := by rw [markDue_frame]
@[simp] theorem markDue_params (s : State) : s.markDue.params = s.params := by rw [markDue_frame]
@[simp] theorem markDue_tableGens (s : State) : s.markDue.tableGens = s.tableGens := by rw [markDue_frame]
@[simp] theorem markDue_records (s : State) : s.markDue.records = s.records := by rw [markDue_frame]
@[simp] theorem markDue_slots (s : State) : s.markDue.slots = s.slots := by rw [markDue_frame]
@[simp] theorem markDue_nextCall (s : State) : s.markDue.nextCall = s.nextCall := by rw [markDue_frame]
@[simp] theorem markDue_lockouts (s : State) : s.markDue.lockouts = s.lockouts := by rw [markDue_frame]
@[simp] theorem markDue_controller (s : State) : s.markDue.controller = s.controller := by rw [markDue_frame]
@[simp] theorem markDue_msgReceiver (s : State) : s.markDue.msgReceiver = s.msgReceiver := by rw [markDue_frame]
@[simp] theorem markDue_output (s : State) : s.markDue.output = s.output := by rw [markDue_frame]
@[simp] theorem markDue_slotTimers (s : State) : s.markDue.slotTimers = s.slotTimers := by rw [markDue_frame]
@[simp] theorem markDue_counters (s : State) : s.markDue.counters = s.counters := by rw [markDue_frame]
@[simp] theorem markDue_rollover (s : State) : s.markDue.rollover = s.rollover := by rw [markDue_frame]
@[simp] theorem markDue_conditions (s : State) : s.markDue.conditions = s.conditions := by rw [markDue_frame]
@[simp] theorem markDue_alertCount (s : State) : s.markDue.alertCount = s.alertCount := by rw [markDue_frame]
@[simp] theorem markDue_alertDue (s : State) : s.markDue.alertDue = s.alertDue := by rw [markDue_frame]

/-- Flow control writes one port. -/
theorem evalFlow_frame (s : State) (p : Port) :
    s.evalFlow p =
      { s with portA := (s.evalFlow p).portA, portB := (s.evalFlow p).portB } := by
  unfold State.evalFlow
  dsimp only
  split_ifs <;> cases p <;> rfl

@[simp] theorem evalFlow_pending (s : State) (p : Port) : (s.evalFlow p).pending = s.pending := by rw [evalFlow_frame]
@[simp] theorem evalFlow_freeCount (s : State) (p : Port) : (s.evalFlow p).freeCount = s.freeCount := by rw [evalFlow_frame]
@[simp] theorem evalFlow_rawStraps (s : State) (p : Port) : (s.evalFlow p).rawStraps = s.rawStraps := by rw [evalFlow_frame]
@[simp] theorem evalFlow_address (s : State) (p : Port) : (s.evalFlow p).address = s.address := by rw [evalFlow_frame]
@[simp] theorem evalFlow_mode (s : State) (p : Port) : (s.evalFlow p).mode = s.mode := by rw [evalFlow_frame]
@[simp] theorem evalFlow_corridorTime (s : State) (p : Port) : (s.evalFlow p).corridorTime = s.corridorTime := by rw [evalFlow_frame]
@[simp] theorem evalFlow_timeSet (s : State) (p : Port) : (s.evalFlow p).timeSet = s.timeSet := by rw [evalFlow_frame]
@[simp] theorem evalFlow_inbound (s : State) (p : Port) : (s.evalFlow p).inbound = s.inbound := by rw [evalFlow_frame]
@[simp] theorem evalFlow_lines (s : State) (p : Port) : (s.evalFlow p).lines = s.lines := by rw [evalFlow_frame]
@[simp] theorem evalFlow_reportPointer (s : State) (p : Port) : (s.evalFlow p).reportPointer = s.reportPointer := by rw [evalFlow_frame]
@[simp] theorem evalFlow_approaches (s : State) (p : Port) : (s.evalFlow p).approaches = s.approaches := by rw [evalFlow_frame]
@[simp] theorem evalFlow_approachGens (s : State) (p : Port) : (s.evalFlow p).approachGens = s.approachGens := by rw [evalFlow_frame]
@[simp] theorem evalFlow_routes (s : State) (p : Port) : (s.evalFlow p).routes = s.routes := by rw [evalFlow_frame]
@[simp] theorem evalFlow_routeGens (s : State) (p : Port) : (s.evalFlow p).routeGens = s.routeGens := by rw [evalFlow_frame]
@[simp] theorem evalFlow_conflicts (s : State) (p : Port) : (s.evalFlow p).conflicts = s.conflicts := by rw [evalFlow_frame]
@[simp] theorem evalFlow_params (s : State) (p : Port) : (s.evalFlow p).params = s.params := by rw [evalFlow_frame]
@[simp] theorem evalFlow_tableGens (s : State) (p : Port) : (s.evalFlow p).tableGens = s.tableGens := by rw [evalFlow_frame]
@[simp] theorem evalFlow_records (s : State) (p : Port) : (s.evalFlow p).records = s.records := by rw [evalFlow_frame]
@[simp] theorem evalFlow_slots (s : State) (p : Port) : (s.evalFlow p).slots = s.slots := by rw [evalFlow_frame]
@[simp] theorem evalFlow_nextCall (s : State) (p : Port) : (s.evalFlow p).nextCall = s.nextCall := by rw [evalFlow_frame]
@[simp] theorem evalFlow_lockouts (s : State) (p : Port) : (s.evalFlow p).lockouts = s.lockouts := by rw [evalFlow_frame]
@[simp] theorem evalFlow_evalDue (s : State) (p : Port) : (s.evalFlow p).evalDue = s.evalDue := by rw [evalFlow_frame]
@[simp] theorem evalFlow_controller (s : State) (p : Port) : (s.evalFlow p).controller = s.controller := by rw [evalFlow_frame]
@[simp] theorem evalFlow_msgReceiver (s : State) (p : Port) : (s.evalFlow p).msgReceiver = s.msgReceiver := by rw [evalFlow_frame]
@[simp] theorem evalFlow_output (s : State) (p : Port) : (s.evalFlow p).output = s.output := by rw [evalFlow_frame]
@[simp] theorem evalFlow_slotTimers (s : State) (p : Port) : (s.evalFlow p).slotTimers = s.slotTimers := by rw [evalFlow_frame]
@[simp] theorem evalFlow_counters (s : State) (p : Port) : (s.evalFlow p).counters = s.counters := by rw [evalFlow_frame]
@[simp] theorem evalFlow_rollover (s : State) (p : Port) : (s.evalFlow p).rollover = s.rollover := by rw [evalFlow_frame]
@[simp] theorem evalFlow_conditions (s : State) (p : Port) : (s.evalFlow p).conditions = s.conditions := by rw [evalFlow_frame]
@[simp] theorem evalFlow_alertCount (s : State) (p : Port) : (s.evalFlow p).alertCount = s.alertCount := by rw [evalFlow_frame]
@[simp] theorem evalFlow_alertDue (s : State) (p : Port) : (s.evalFlow p).alertDue = s.alertDue := by rw [evalFlow_frame]

/-- A changed queue writes the two ports. -/
theorem setQueue_frame (s : State) (p : Port) (q : List QueuedFrame) :
    s.setQueue p q =
      { s with portA := (s.setQueue p q).portA, portB := (s.setQueue p q).portB } := by
  unfold State.setQueue
  rw [evalFlow_frame]
  cases p <;> rfl

@[simp] theorem setQueue_pending (s : State) (p : Port) (q : List QueuedFrame) : (s.setQueue p q).pending = s.pending := by rw [setQueue_frame]
@[simp] theorem setQueue_freeCount (s : State) (p : Port) (q : List QueuedFrame) : (s.setQueue p q).freeCount = s.freeCount := by rw [setQueue_frame]
@[simp] theorem setQueue_rawStraps (s : State) (p : Port) (q : List QueuedFrame) : (s.setQueue p q).rawStraps = s.rawStraps := by rw [setQueue_frame]
@[simp] theorem setQueue_address (s : State) (p : Port) (q : List QueuedFrame) : (s.setQueue p q).address = s.address := by rw [setQueue_frame]
@[simp] theorem setQueue_mode (s : State) (p : Port) (q : List QueuedFrame) : (s.setQueue p q).mode = s.mode := by rw [setQueue_frame]
@[simp] theorem setQueue_corridorTime (s : State) (p : Port) (q : List QueuedFrame) : (s.setQueue p q).corridorTime = s.corridorTime := by rw [setQueue_frame]
@[simp] theorem setQueue_timeSet (s : State) (p : Port) (q : List QueuedFrame) : (s.setQueue p q).timeSet = s.timeSet := by rw [setQueue_frame]
@[simp] theorem setQueue_inbound (s : State) (p : Port) (q : List QueuedFrame) : (s.setQueue p q).inbound = s.inbound := by rw [setQueue_frame]
@[simp] theorem setQueue_lines (s : State) (p : Port) (q : List QueuedFrame) : (s.setQueue p q).lines = s.lines := by rw [setQueue_frame]
@[simp] theorem setQueue_reportPointer (s : State) (p : Port) (q : List QueuedFrame) : (s.setQueue p q).reportPointer = s.reportPointer := by rw [setQueue_frame]
@[simp] theorem setQueue_approaches (s : State) (p : Port) (q : List QueuedFrame) : (s.setQueue p q).approaches = s.approaches := by rw [setQueue_frame]
@[simp] theorem setQueue_approachGens (s : State) (p : Port) (q : List QueuedFrame) : (s.setQueue p q).approachGens = s.approachGens := by rw [setQueue_frame]
@[simp] theorem setQueue_routes (s : State) (p : Port) (q : List QueuedFrame) : (s.setQueue p q).routes = s.routes := by rw [setQueue_frame]
@[simp] theorem setQueue_routeGens (s : State) (p : Port) (q : List QueuedFrame) : (s.setQueue p q).routeGens = s.routeGens := by rw [setQueue_frame]
@[simp] theorem setQueue_conflicts (s : State) (p : Port) (q : List QueuedFrame) : (s.setQueue p q).conflicts = s.conflicts := by rw [setQueue_frame]
@[simp] theorem setQueue_params (s : State) (p : Port) (q : List QueuedFrame) : (s.setQueue p q).params = s.params := by rw [setQueue_frame]
@[simp] theorem setQueue_tableGens (s : State) (p : Port) (q : List QueuedFrame) : (s.setQueue p q).tableGens = s.tableGens := by rw [setQueue_frame]
@[simp] theorem setQueue_records (s : State) (p : Port) (q : List QueuedFrame) : (s.setQueue p q).records = s.records := by rw [setQueue_frame]
@[simp] theorem setQueue_slots (s : State) (p : Port) (q : List QueuedFrame) : (s.setQueue p q).slots = s.slots := by rw [setQueue_frame]
@[simp] theorem setQueue_nextCall (s : State) (p : Port) (q : List QueuedFrame) : (s.setQueue p q).nextCall = s.nextCall := by rw [setQueue_frame]
@[simp] theorem setQueue_lockouts (s : State) (p : Port) (q : List QueuedFrame) : (s.setQueue p q).lockouts = s.lockouts := by rw [setQueue_frame]
@[simp] theorem setQueue_evalDue (s : State) (p : Port) (q : List QueuedFrame) : (s.setQueue p q).evalDue = s.evalDue := by rw [setQueue_frame]
@[simp] theorem setQueue_controller (s : State) (p : Port) (q : List QueuedFrame) : (s.setQueue p q).controller = s.controller := by rw [setQueue_frame]
@[simp] theorem setQueue_msgReceiver (s : State) (p : Port) (q : List QueuedFrame) : (s.setQueue p q).msgReceiver = s.msgReceiver := by rw [setQueue_frame]
@[simp] theorem setQueue_output (s : State) (p : Port) (q : List QueuedFrame) : (s.setQueue p q).output = s.output := by rw [setQueue_frame]
@[simp] theorem setQueue_slotTimers (s : State) (p : Port) (q : List QueuedFrame) : (s.setQueue p q).slotTimers = s.slotTimers := by rw [setQueue_frame]
@[simp] theorem setQueue_counters (s : State) (p : Port) (q : List QueuedFrame) : (s.setQueue p q).counters = s.counters := by rw [setQueue_frame]
@[simp] theorem setQueue_rollover (s : State) (p : Port) (q : List QueuedFrame) : (s.setQueue p q).rollover = s.rollover := by rw [setQueue_frame]
@[simp] theorem setQueue_conditions (s : State) (p : Port) (q : List QueuedFrame) : (s.setQueue p q).conditions = s.conditions := by rw [setQueue_frame]
@[simp] theorem setQueue_alertCount (s : State) (p : Port) (q : List QueuedFrame) : (s.setQueue p q).alertCount = s.alertCount := by rw [setQueue_frame]
@[simp] theorem setQueue_alertDue (s : State) (p : Port) (q : List QueuedFrame) : (s.setQueue p q).alertDue = s.alertDue := by rw [setQueue_frame]

/-- An append writes the two ports. -/
theorem enqueue_frame (s : State) (p : Port) (f : QueuedFrame) :
    s.enqueue p f =
      { s with portA := (s.enqueue p f).portA, portB := (s.enqueue p f).portB } := by
  unfold State.enqueue
  split
  · exact setQueue_frame s p _
  · rfl

@[simp] theorem enqueue_pending (s : State) (p : Port) (f : QueuedFrame) : (s.enqueue p f).pending = s.pending := by rw [enqueue_frame]
@[simp] theorem enqueue_freeCount (s : State) (p : Port) (f : QueuedFrame) : (s.enqueue p f).freeCount = s.freeCount := by rw [enqueue_frame]
@[simp] theorem enqueue_rawStraps (s : State) (p : Port) (f : QueuedFrame) : (s.enqueue p f).rawStraps = s.rawStraps := by rw [enqueue_frame]
@[simp] theorem enqueue_address (s : State) (p : Port) (f : QueuedFrame) : (s.enqueue p f).address = s.address := by rw [enqueue_frame]
@[simp] theorem enqueue_mode (s : State) (p : Port) (f : QueuedFrame) : (s.enqueue p f).mode = s.mode := by rw [enqueue_frame]
@[simp] theorem enqueue_corridorTime (s : State) (p : Port) (f : QueuedFrame) : (s.enqueue p f).corridorTime = s.corridorTime := by rw [enqueue_frame]
@[simp] theorem enqueue_timeSet (s : State) (p : Port) (f : QueuedFrame) : (s.enqueue p f).timeSet = s.timeSet := by rw [enqueue_frame]
@[simp] theorem enqueue_inbound (s : State) (p : Port) (f : QueuedFrame) : (s.enqueue p f).inbound = s.inbound := by rw [enqueue_frame]
@[simp] theorem enqueue_lines (s : State) (p : Port) (f : QueuedFrame) : (s.enqueue p f).lines = s.lines := by rw [enqueue_frame]
@[simp] theorem enqueue_reportPointer (s : State) (p : Port) (f : QueuedFrame) : (s.enqueue p f).reportPointer = s.reportPointer := by rw [enqueue_frame]
@[simp] theorem enqueue_approaches (s : State) (p : Port) (f : QueuedFrame) : (s.enqueue p f).approaches = s.approaches := by rw [enqueue_frame]
@[simp] theorem enqueue_approachGens (s : State) (p : Port) (f : QueuedFrame) : (s.enqueue p f).approachGens = s.approachGens := by rw [enqueue_frame]
@[simp] theorem enqueue_routes (s : State) (p : Port) (f : QueuedFrame) : (s.enqueue p f).routes = s.routes := by rw [enqueue_frame]
@[simp] theorem enqueue_routeGens (s : State) (p : Port) (f : QueuedFrame) : (s.enqueue p f).routeGens = s.routeGens := by rw [enqueue_frame]
@[simp] theorem enqueue_conflicts (s : State) (p : Port) (f : QueuedFrame) : (s.enqueue p f).conflicts = s.conflicts := by rw [enqueue_frame]
@[simp] theorem enqueue_params (s : State) (p : Port) (f : QueuedFrame) : (s.enqueue p f).params = s.params := by rw [enqueue_frame]
@[simp] theorem enqueue_tableGens (s : State) (p : Port) (f : QueuedFrame) : (s.enqueue p f).tableGens = s.tableGens := by rw [enqueue_frame]
@[simp] theorem enqueue_records (s : State) (p : Port) (f : QueuedFrame) : (s.enqueue p f).records = s.records := by rw [enqueue_frame]
@[simp] theorem enqueue_slots (s : State) (p : Port) (f : QueuedFrame) : (s.enqueue p f).slots = s.slots := by rw [enqueue_frame]
@[simp] theorem enqueue_nextCall (s : State) (p : Port) (f : QueuedFrame) : (s.enqueue p f).nextCall = s.nextCall := by rw [enqueue_frame]
@[simp] theorem enqueue_lockouts (s : State) (p : Port) (f : QueuedFrame) : (s.enqueue p f).lockouts = s.lockouts := by rw [enqueue_frame]
@[simp] theorem enqueue_evalDue (s : State) (p : Port) (f : QueuedFrame) : (s.enqueue p f).evalDue = s.evalDue := by rw [enqueue_frame]
@[simp] theorem enqueue_controller (s : State) (p : Port) (f : QueuedFrame) : (s.enqueue p f).controller = s.controller := by rw [enqueue_frame]
@[simp] theorem enqueue_msgReceiver (s : State) (p : Port) (f : QueuedFrame) : (s.enqueue p f).msgReceiver = s.msgReceiver := by rw [enqueue_frame]
@[simp] theorem enqueue_output (s : State) (p : Port) (f : QueuedFrame) : (s.enqueue p f).output = s.output := by rw [enqueue_frame]
@[simp] theorem enqueue_slotTimers (s : State) (p : Port) (f : QueuedFrame) : (s.enqueue p f).slotTimers = s.slotTimers := by rw [enqueue_frame]
@[simp] theorem enqueue_counters (s : State) (p : Port) (f : QueuedFrame) : (s.enqueue p f).counters = s.counters := by rw [enqueue_frame]
@[simp] theorem enqueue_rollover (s : State) (p : Port) (f : QueuedFrame) : (s.enqueue p f).rollover = s.rollover := by rw [enqueue_frame]
@[simp] theorem enqueue_conditions (s : State) (p : Port) (f : QueuedFrame) : (s.enqueue p f).conditions = s.conditions := by rw [enqueue_frame]
@[simp] theorem enqueue_alertCount (s : State) (p : Port) (f : QueuedFrame) : (s.enqueue p f).alertCount = s.alertCount := by rw [enqueue_frame]
@[simp] theorem enqueue_alertDue (s : State) (p : Port) (f : QueuedFrame) : (s.enqueue p f).alertDue = s.alertDue := by rw [enqueue_frame]

/-- An offered ALERT writes the two ports and the alert count. -/
theorem offerAlert_frame (s : State) (f : LinkFrame) (p : Port) :
    s.offerAlert f p =
      { s with portA := (s.offerAlert f p).portA,
               portB := (s.offerAlert f p).portB,
               alertCount := (s.offerAlert f p).alertCount } := by
  unfold State.offerAlert
  split
  · dsimp only
    rw [enqueue_frame]
  · rfl


/-- The end of an event writes the two ports, the alert count and the mark of an ALERT owed. -/
theorem endEvent_frame (s : State) :
    s.endEvent =
      { s with portA := s.endEvent.portA,
               portB := s.endEvent.portB,
               alertCount := s.endEvent.alertCount,
               alertDue := s.endEvent.alertDue } := by
  unfold State.endEvent forEach
  split
  · cases s.params.alertPort <;> simp only [AlertPort.ports, List.foldl]
    all_goals rw [offerAlert_frame]
    rw [offerAlert_frame]
  · rfl

@[simp] theorem endEvent_pending (s : State) : s.endEvent.pending = s.pending := by rw [endEvent_frame]
@[simp] theorem endEvent_freeCount (s : State) : s.endEvent.freeCount = s.freeCount := by rw [endEvent_frame]
@[simp] theorem endEvent_rawStraps (s : State) : s.endEvent.rawStraps = s.rawStraps := by rw [endEvent_frame]
@[simp] theorem endEvent_address (s : State) : s.endEvent.address = s.address := by rw [endEvent_frame]
@[simp] theorem endEvent_mode (s : State) : s.endEvent.mode = s.mode := by rw [endEvent_frame]
@[simp] theorem endEvent_corridorTime (s : State) : s.endEvent.corridorTime = s.corridorTime := by rw [endEvent_frame]
@[simp] theorem endEvent_timeSet (s : State) : s.endEvent.timeSet = s.timeSet := by rw [endEvent_frame]
@[simp] theorem endEvent_inbound (s : State) : s.endEvent.inbound = s.inbound := by rw [endEvent_frame]
@[simp] theorem endEvent_lines (s : State) : s.endEvent.lines = s.lines := by rw [endEvent_frame]
@[simp] theorem endEvent_reportPointer (s : State) : s.endEvent.reportPointer = s.reportPointer := by rw [endEvent_frame]
@[simp] theorem endEvent_approaches (s : State) : s.endEvent.approaches = s.approaches := by rw [endEvent_frame]
@[simp] theorem endEvent_approachGens (s : State) : s.endEvent.approachGens = s.approachGens := by rw [endEvent_frame]
@[simp] theorem endEvent_routes (s : State) : s.endEvent.routes = s.routes := by rw [endEvent_frame]
@[simp] theorem endEvent_routeGens (s : State) : s.endEvent.routeGens = s.routeGens := by rw [endEvent_frame]
@[simp] theorem endEvent_conflicts (s : State) : s.endEvent.conflicts = s.conflicts := by rw [endEvent_frame]
@[simp] theorem endEvent_params (s : State) : s.endEvent.params = s.params := by rw [endEvent_frame]
@[simp] theorem endEvent_tableGens (s : State) : s.endEvent.tableGens = s.tableGens := by rw [endEvent_frame]
@[simp] theorem endEvent_records (s : State) : s.endEvent.records = s.records := by rw [endEvent_frame]
@[simp] theorem endEvent_slots (s : State) : s.endEvent.slots = s.slots := by rw [endEvent_frame]
@[simp] theorem endEvent_nextCall (s : State) : s.endEvent.nextCall = s.nextCall := by rw [endEvent_frame]
@[simp] theorem endEvent_lockouts (s : State) : s.endEvent.lockouts = s.lockouts := by rw [endEvent_frame]
@[simp] theorem endEvent_evalDue (s : State) : s.endEvent.evalDue = s.evalDue := by rw [endEvent_frame]
@[simp] theorem endEvent_controller (s : State) : s.endEvent.controller = s.controller := by rw [endEvent_frame]
@[simp] theorem endEvent_msgReceiver (s : State) : s.endEvent.msgReceiver = s.msgReceiver := by rw [endEvent_frame]
@[simp] theorem endEvent_output (s : State) : s.endEvent.output = s.output := by rw [endEvent_frame]
@[simp] theorem endEvent_slotTimers (s : State) : s.endEvent.slotTimers = s.slotTimers := by rw [endEvent_frame]
@[simp] theorem endEvent_counters (s : State) : s.endEvent.counters = s.counters := by rw [endEvent_frame]
@[simp] theorem endEvent_rollover (s : State) : s.endEvent.rollover = s.rollover := by rw [endEvent_frame]
@[simp] theorem endEvent_conditions (s : State) : s.endEvent.conditions = s.conditions := by rw [endEvent_frame]

/-- Flow control after a PARAMS write writes one port. -/
theorem flowAfter_frame (s : State) (old : Params) (p : Port) :
    s.flowAfter old p =
      { s with portA := (s.flowAfter old p).portA, portB := (s.flowAfter old p).portB } := by
  unfold State.flowAfter
  split
  · rfl
  · exact evalFlow_frame s p


/-- A REPLY writes the two ports when it fits, else what counting writes. -/
theorem reply_frame (s : State) (x : InboundFrame) (a : Answer) :
    s.reply x a =
      { s with portA := (s.reply x a).portA,
               portB := (s.reply x a).portB,
               counters := (s.reply x a).counters,
               rollover := (s.reply x a).rollover,
               conditions := (s.reply x a).conditions,
               alertDue := (s.reply x a).alertDue } := by
  unfold State.reply
  dsimp only
  split
  · rw [enqueue_frame]
  · rw [count_frame]


/-- A record taken out writes the records and what counting writes. -/
theorem takeOut_frame (s : State) (r : Fin 24) (oc : ApproachCounter) :
    s.takeOut r oc =
      { s with records := (s.takeOut r oc).records,
               counters := (s.takeOut r oc).counters,
               rollover := (s.takeOut r oc).rollover,
               conditions := (s.takeOut r oc).conditions,
               alertDue := (s.takeOut r oc).alertDue } := by
  unfold State.takeOut
  split
  · rfl
  · rw [count_frame]
    rfl


/-- A slot that closes writes the slots, the output, the slot timers and the evaluation-due mark. -/
theorem closeSlot_frame (s : State) (k : Fin 4) (cause : CloseCause) :
    s.closeSlot k cause =
      { s with slots := (s.closeSlot k cause).slots,
               output := (s.closeSlot k cause).output,
               slotTimers := (s.closeSlot k cause).slotTimers,
               evalDue := (s.closeSlot k cause).evalDue } := by
  unfold State.closeSlot
  dsimp only
  rw [markDue_frame]
  rfl


/-- A slot that returns to IDLE writes the slots, the slot timers, a lockout and the evaluation-due mark. -/
theorem idleSlot_frame (s : State) (k : Fin 4) :
    s.idleSlot k =
      { s with slots := (s.idleSlot k).slots,
               slotTimers := (s.idleSlot k).slotTimers,
               lockouts := (s.idleSlot k).lockouts,
               evalDue := (s.idleSlot k).evalDue } := by
  unfold State.idleSlot
  dsimp only
  rw [markDue_frame]
  split <;> rfl


/-- A member that returns writes the records and what counting writes. -/
theorem returnMember_frame (s : State) (holdOff : Option Nat) (exclude : Option ServiceKind) (r : Fin 24) :
    s.returnMember holdOff exclude r =
      { s with records := (s.returnMember holdOff exclude r).records,
               counters := (s.returnMember holdOff exclude r).counters,
               rollover := (s.returnMember holdOff exclude r).rollover,
               conditions := (s.returnMember holdOff exclude r).conditions,
               alertDue := (s.returnMember holdOff exclude r).alertDue } := by
  unfold State.returnMember
  split
  · rfl
  · dsimp only
    split
    · rw [count_frame]
      rfl
    · rfl


/-- Members that return write the records and what counting writes. -/
theorem returnMembers_frame (s : State) (ms : List (Fin 24)) (holdOff : Option Nat) (exclude : Option ServiceKind) :
    s.returnMembers ms holdOff exclude =
      { s with records := (s.returnMembers ms holdOff exclude).records,
               counters := (s.returnMembers ms holdOff exclude).counters,
               rollover := (s.returnMembers ms holdOff exclude).rollover,
               conditions := (s.returnMembers ms holdOff exclude).conditions,
               alertDue := (s.returnMembers ms holdOff exclude).alertDue } := by
  unfold State.returnMembers forEach
  induction ms generalizing s with
  | nil => rfl
  | cons r rest ih =>
    rw [List.foldl_cons]
    have h := returnMember_frame s holdOff exclude r
    have e := ih (s.returnMember holdOff exclude r)
    dsimp only at e ⊢
    generalize s.returnMember holdOff exclude r = t at h e ⊢
    generalize List.foldl (fun t x => t.returnMember holdOff exclude x) t rest = w at e ⊢
    rw [e, h]


/-- A member that leaves writes the slots, and what closing its slot writes. -/
theorem leaveSlot_frame (s : State) (k : Fin 4) (r : Fin 24) (cause : CloseCause) :
    s.leaveSlot k r cause =
      { s with slots := (s.leaveSlot k r cause).slots,
               output := (s.leaveSlot k r cause).output,
               slotTimers := (s.leaveSlot k r cause).slotTimers,
               evalDue := (s.leaveSlot k r cause).evalDue } := by
  unfold State.leaveSlot
  dsimp only
  split
  · exact closeSlot_frame s k cause
  · rfl


/-- A removal writes the records, what counting writes, and what leaving a slot writes. -/
theorem removeRecord_frame (s : State) (r : Fin 24) (oc : ApproachCounter) (cause : CloseCause) :
    s.removeRecord r oc cause =
      { s with records := (s.removeRecord r oc cause).records,
               counters := (s.removeRecord r oc cause).counters,
               rollover := (s.removeRecord r oc cause).rollover,
               conditions := (s.removeRecord r oc cause).conditions,
               alertDue := (s.removeRecord r oc cause).alertDue,
               slots := (s.removeRecord r oc cause).slots,
               output := (s.removeRecord r oc cause).output,
               slotTimers := (s.removeRecord r oc cause).slotTimers,
               evalDue := (s.removeRecord r oc cause).evalDue } := by
  unfold State.removeRecord
  split
  · rfl
  · split
    · rw [takeOut_frame]
    · rw [leaveSlot_frame, takeOut_frame]


/-- A notice writes the two ports when it is queued, and what counting and raising write. -/
theorem sendNotice_frame (s : State) (ap : Fin 8) (vehicle route : Nat) (direction : Bool) (late : Option Int) :
    s.sendNotice ap vehicle route direction late =
      { s with portA := (s.sendNotice ap vehicle route direction late).portA,
               portB := (s.sendNotice ap vehicle route direction late).portB,
               counters := (s.sendNotice ap vehicle route direction late).counters,
               rollover := (s.sendNotice ap vehicle route direction late).rollover,
               conditions := (s.sendNotice ap vehicle route direction late).conditions,
               alertDue := (s.sendNotice ap vehicle route direction late).alertDue } := by
  unfold State.sendNotice State.offerNotice
  dsimp only
  split
  · rfl
  · split
    · rw [count_frame, enqueue_frame]
    · rw [raise_frame, count_frame]


/-! ### Requests and changes made in turn -/

@[simp] theorem forEach_nil {α : Type} (f : α → State → State) (s : State) : forEach [] f s = s := rfl

@[simp] theorem forEach_cons {α : Type} (x : α) (xs : List α) (f : α → State → State) (s : State) :
    forEach (x :: xs) f s = forEach xs f (f x s) := rfl

/-- The row of a REQUEST is that of its request code. -/
theorem rowOf_request (f : LinkFrame) (h : f.kind = kindRequest) : rowOf f = requestRow f.body := by
  unfold rowOf
  rw [h]
  rfl

/-- A row that deals with the frame at the head takes it. -/
theorem takeHead_of_head (s : State) (row : HandlerRow) (x : InboundFrame) (rest : List InboundFrame)
    (h : s.inbound = x :: rest) (hr : rowOf x.frame = row) : s.takeHead row = some (x, { s with inbound := rest }) := by
  unfold State.takeHead
  rw [h]
  simp [hr]

/-- A row that does not deal with the frame at the head takes nothing. -/
theorem takeHead_of_other (s : State) (row : HandlerRow) (x : InboundFrame) (rest : List InboundFrame)
    (h : s.inbound = x :: rest) (hr : rowOf x.frame ≠ row) : s.takeHead row = none := by
  unfold State.takeHead
  rw [h]
  simp [hr]

/-- A request whose row deals with the head is carried out, answered, and its event ends. -/
theorem request_of_head (row : HandlerRow) (carryOut : List Byte → State → State × Answer) (s : State)
    (x : InboundFrame) (rest : List InboundFrame) (h : s.inbound = x :: rest) (hr : rowOf x.frame = row) :
    request row carryOut s = .next
      (((carryOut x.frame.body { s with inbound := rest }).1.reply x
        (carryOut x.frame.body { s with inbound := rest }).2).endEvent) := by
  unfold request
  rw [takeHead_of_head s row x rest h hr]
  rfl

/-- A request whose row does not deal with the head changes nothing. -/
theorem request_of_other (row : HandlerRow) (carryOut : List Byte → State → State × Answer) (s : State)
    (h : s.takeHead row = none) : request row carryOut s = .next s := by
  unfold request
  rw [h]
  rfl

/-! ### Beacon lines -/

/-- A raising reads and writes no line. -/
theorem raise_setLine (s : State) (l : Fin 8) (x : LineState) (c : Condition) :
    (s.setLine l x).raise c = (s.raise c).setLine l x := by
  have e : (s.setLine l x).conditions = s.conditions := rfl
  unfold State.raise
  rw [e]
  split <;> rfl

/-- A counting reads and writes no line. -/
theorem count_setLine (s : State) (l : Fin 8) (x : LineState) (ref : CounterRef) :
    (s.setLine l x).count ref = (s.count ref).setLine l x := by
  have e1 : (s.setLine l x).counters = s.counters := rfl
  have e2 : (s.setLine l x).rollover = s.rollover := rfl
  unfold State.count
  rw [e1, e2]
  dsimp only
  split
  · split
    · rfl
    · rw [← raise_setLine]
      rfl
  · rfl

/-- Characters that do not end a report leave the assembler as they leave it, and nothing else changes. -/
theorem reportComplete_of_going (s : State) (l : Fin 8) (chars : List BeaconChar) (a : Assembler)
    (h : s.lineRun l chars = some (.going a)) :
    execReportComplete l chars s = .next (s.setLine l { s.line l with assembler := a }).endEvent := by
  simp [execReportComplete, h, taken]

/-- Characters that end a report hand it to the line. -/
theorem reportComplete_of_ended (s : State) (l : Fin 8) (chars : List BeaconChar) (raw : RawReport)
    (h : s.reportFrom l chars = some raw) :
    execReportComplete l chars s = .next (s.reportEnded l (judge l raw)).endEvent := by
  unfold State.reportFrom at h
  unfold execReportComplete
  split at h
  · rename_i hr
    injection h with h
    subst h
    rw [hr]
    rfl
  · exact nomatch h

end Sys2Proof.Laws
end

