-- ==== Sys2Proof/Laws/PerInstr.lean ====
section
/-! SUPPORT. The form of each command: no word spells it (the table gives no bits), and a command that carries no
characters is well-formed whatever its operands. -/

namespace Sys2Proof.Laws.Form

/-- The characters a command carries, for the rows that carry some. -/
def charCount : Instr → Option Nat
  | .validFrame _ chars | .crcError _ chars | .lengthError _ chars | .frameStart _ chars => some chars.length
  | .phases chars | .accept chars | .start chars | .deny chars | .endService chars => some chars.length
  | .invalidMessage chars | .messageStart chars => some chars.length
  | .reportComplete _ chars | .lineDrainComplete _ (.ninth chars) | .reportStart _ _ chars => some chars.length
  | _ => none

/-- What holds of a command's form: no word spells it, and without characters it is well-formed. -/
def Statement (c : Instr) : Prop :=
  (∀ nbits w : Nat, decodeTableWord nbits w ≠ some c) ∧ (charCount c = none → c.wellFormed = true)

/-- No word spells a command. -/
theorem noWord (c : Instr) (nbits w : Nat) : decodeTableWord nbits w ≠ some c := fun h => nomatch h

theorem powerOn (straps : BitVec 6) (level : ReadyLevel) : Statement (.powerOn straps level) := ⟨noWord _, fun _ => rfl⟩
theorem resetPin (straps : BitVec 6) (level : ReadyLevel) : Statement (.resetPin straps level) := ⟨noWord _, fun _ => rfl⟩
theorem validFrame (p : Port) (chars : List SerialChar) : Statement (.validFrame p chars) := ⟨noWord _, fun h => nomatch h⟩
theorem crcError (p : Port) (chars : List SerialChar) : Statement (.crcError p chars) := ⟨noWord _, fun h => nomatch h⟩
theorem lengthError (p : Port) (chars : List SerialChar) : Statement (.lengthError p chars) := ⟨noWord _, fun h => nomatch h⟩
theorem corridorRxIdle (p : Port) : Statement (.corridorRxIdle p) := ⟨noWord _, fun _ => rfl⟩
theorem txStart (p : Port) : Statement (.txStart p) := ⟨noWord _, fun _ => rfl⟩
theorem frameTxEnd (p : Port) : Statement (.frameTxEnd p) := ⟨noWord _, fun _ => rfl⟩
theorem fillTimerExpiry (p : Port) : Statement (.fillTimerExpiry p) := ⟨noWord _, fun _ => rfl⟩
theorem holdTimerExpiry (p : Port) : Statement (.holdTimerExpiry p) := ⟨noWord _, fun _ => rfl⟩
theorem holdRepeatExpiry (p : Port) : Statement (.holdRepeatExpiry p) := ⟨noWord _, fun _ => rfl⟩
theorem silenceTimerExpiry (p : Port) : Statement (.silenceTimerExpiry p) := ⟨noWord _, fun _ => rfl⟩
theorem portDisable : Statement .portDisable := ⟨noWord _, fun _ => rfl⟩
theorem portEnable : Statement .portEnable := ⟨noWord _, fun _ => rfl⟩
theorem portReset : Statement .portReset := ⟨noWord _, fun _ => rfl⟩
theorem drainComplete (p : Port) : Statement (.drainComplete p) := ⟨noWord _, fun _ => rfl⟩
theorem reportComplete (l : Fin 8) (chars : List BeaconChar) : Statement (.reportComplete l chars) := ⟨noWord _, fun h => nomatch h⟩
theorem beaconLineIdle (l : Fin 8) : Statement (.beaconLineIdle l) := ⟨noWord _, fun _ => rfl⟩
theorem lineDisable : Statement .lineDisable := ⟨noWord _, fun _ => rfl⟩
theorem lineEnable : Statement .lineEnable := ⟨noWord _, fun _ => rfl⟩
theorem lineDrainComplete (l : Fin 8) (how : ReportEnd) : Statement (.lineDrainComplete l how) := by
  cases how with
  | ninth chars => exact ⟨noWord _, fun h => nomatch h⟩
  | cutOff => exact ⟨noWord _, fun _ => rfl⟩
theorem reportTake : Statement .reportTake := ⟨noWord _, fun _ => rfl⟩
theorem etaExpiry (r : Fin 24) : Statement (.etaExpiry r) := ⟨noWord _, fun _ => rfl⟩
theorem lifetimeExpiry (r : Fin 24) : Statement (.lifetimeExpiry r) := ⟨noWord _, fun _ => rfl⟩
theorem holdOffExpiry (r : Fin 24) : Statement (.holdOffExpiry r) := ⟨noWord _, fun _ => rfl⟩
theorem evaluation : Statement .evaluation := ⟨noWord _, fun _ => rfl⟩
theorem lockoutExpiry (ap : Fin 8) : Statement (.lockoutExpiry ap) := ⟨noWord _, fun _ => rfl⟩
theorem readyLineChange (level : ReadyLevel) : Statement (.readyLineChange level) := ⟨noWord _, fun _ => rfl⟩
theorem phases (chars : List SerialChar) : Statement (.phases chars) := ⟨noWord _, fun h => nomatch h⟩
theorem accept (chars : List SerialChar) : Statement (.accept chars) := ⟨noWord _, fun h => nomatch h⟩
theorem start (chars : List SerialChar) : Statement (.start chars) := ⟨noWord _, fun h => nomatch h⟩
theorem deny (chars : List SerialChar) : Statement (.deny chars) := ⟨noWord _, fun h => nomatch h⟩
theorem endService (chars : List SerialChar) : Statement (.endService chars) := ⟨noWord _, fun h => nomatch h⟩
theorem invalidMessage (chars : List SerialChar) : Statement (.invalidMessage chars) := ⟨noWord _, fun h => nomatch h⟩
theorem messageCutOff : Statement .messageCutOff := ⟨noWord _, fun _ => rfl⟩
theorem messageTxEnd : Statement .messageTxEnd := ⟨noWord _, fun _ => rfl⟩
theorem phaseAgeExpiry : Statement .phaseAgeExpiry := ⟨noWord _, fun _ => rfl⟩
theorem responseTimeout (k : Fin 4) : Statement (.responseTimeout k) := ⟨noWord _, fun _ => rfl⟩
theorem startLimitExpiry (k : Fin 4) : Statement (.startLimitExpiry k) := ⟨noWord _, fun _ => rfl⟩
theorem serviceLimitExpiry (k : Fin 4) : Statement (.serviceLimitExpiry k) := ⟨noWord _, fun _ => rfl⟩
theorem time : Statement .time := ⟨noWord _, fun _ => rfl⟩
theorem corridorTimeWrap : Statement .corridorTimeWrap := ⟨noWord _, fun _ => rfl⟩
theorem noticeReceive : Statement .noticeReceive := ⟨noWord _, fun _ => rfl⟩
theorem unknownKind : Statement .unknownKind := ⟨noWord _, fun _ => rfl⟩
theorem unknownRequest : Statement .unknownRequest := ⟨noWord _, fun _ => rfl⟩
theorem identify : Statement .identify := ⟨noWord _, fun _ => rfl⟩
theorem readStatus : Statement .readStatus := ⟨noWord _, fun _ => rfl⟩
theorem readTable : Statement .readTable := ⟨noWord _, fun _ => rfl⟩
theorem writeEntry : Statement .writeEntry := ⟨noWord _, fun _ => rfl⟩
theorem verifyTable : Statement .verifyTable := ⟨noWord _, fun _ => rfl⟩
theorem readRecords : Statement .readRecords := ⟨noWord _, fun _ => rfl⟩
theorem readSlots : Statement .readSlots := ⟨noWord _, fun _ => rfl⟩
theorem withdraw : Statement .withdraw := ⟨noWord _, fun _ => rfl⟩
theorem readCounters : Statement .readCounters := ⟨noWord _, fun _ => rfl⟩
theorem readAttention : Statement .readAttention := ⟨noWord _, fun _ => rfl⟩
theorem commission : Statement .commission := ⟨noWord _, fun _ => rfl⟩
theorem decommission : Statement .decommission := ⟨noWord _, fun _ => rfl⟩
theorem frameStart (p : Port) (more : List SerialChar) : Statement (.frameStart p more) := ⟨noWord _, fun h => nomatch h⟩
theorem reportStart (l : Fin 8) (parityBit : Bool) (more : List BeaconChar) : Statement (.reportStart l parityBit more) := ⟨noWord _, fun h => nomatch h⟩
theorem messageStart (more : List SerialChar) : Statement (.messageStart more) := ⟨noWord _, fun h => nomatch h⟩

end Sys2Proof.Laws.Form
end

