-- ==== Sys2Proof/Tests/Slice0.lean ====
section
/-! SUPPORT. Tests: an ill-formed command for each check, the spec's worked examples, and for every statement of
Certificates/ with hypotheses a state and operands that meet them (the witness_ theorems, a conjunct for each clause). -/

namespace Sys2Proof.Tests

open Sys2Proof.Machine Sys2Proof.Safety

set_option Elab.async false

/-! ### Builders -/

def good (b : Byte) : SerialChar := { data := b, stopGood := true }
def beaconGood (b : Byte) : BeaconChar := { data := b, parityBit := false, stopGood := true }

/-- Junction 9 after power-on: STANDBY, the ready line READY. -/
def standby : State := State.afterReset 9 .ready [] 0

def disabledA : State := standby.setPort .a { standby.portA with mode := .disabled }
def drainingA : State := standby.setPort .a { standby.portA with mode := .draining, rxMarked := true }
def huntA : State := standby.setPort .a { standby.portA with receiver := .hunt }

def frame (dest kind hop : Byte) (body : List Byte) : LinkFrame :=
  { dest := dest, source := 7, kind := kind, hop := hop, tag := 5, body := body }

def held (f : LinkFrame) : QueuedFrame := { frame := f, ownAlert := false }
def alert : QueuedFrame := { frame := frame 0 7 63 [], ownAlert := true }
def sent (o : TxOrigin) : Sending := { origin := o, frame := frame 0 0 0 [] }

def request (body : List Byte) : InboundFrame := { port := .a, frame := frame 9 0x05 63 body }
def asked (s : State) (body : List Byte) : State := { s with inbound := [request body] }

theorem asked_head (s : State) (body : List Byte) (code : Nat) (h : byteAt body 0 = code) :
    RequestAtHead (asked s body) (request body) [] code := ⟨rfl, rfl, h⟩

def took (s : State) (f : LinkFrame) : State := { s with inbound := [{ port := .a, frame := f }] }

def approach0 : ApproachEntry :=
  { ApproachEntry.reset with
    inUse := true, checkIn := some 0, checkOut := some 1, kinds := { extend := true, early := true, jump := false }
    downDirection := some .b, downAddress := some 10, lockout := 40 }

/-- Approach 0 in use; ACTIVE; the phase status KNOWN with group 1 green. -/
def active : State :=
  { standby with
    mode := .active
    approaches := standby.approaches.set 0 approach0
    controller := { standby.controller with phaseKnown := true, greenSet := 1, phaseAge := 0 } }

def bus (vehicle level : Nat) (basis : Basis) : Record :=
  { vehicle := vehicle, route := 240, direction := true, approach := 0, basis := basis, upstream := some 8
    level := level, lateness := none, state := .waiting, eta := 100, lifetime := 200, holdOff := none, retry := 0
    excluded := .empty, callSlot := none, created := 0 }

def member (vehicle : Nat) (st : RecordState) : Record :=
  { bus vehicle 3 .confirmed with state := st, callSlot := some 0 }

def slotIn (st : SlotState) (members : List (Fin 24)) : CallSlot :=
  { state := st, call := some 1, approach := some 0, kind := some .extend, duration := some 50, members := members
    cause := none, wasServing := false }

def onePut (x : Record) : State := active.setRecord 0 (some x)

def called (st : SlotState) : State :=
  ((onePut (member 4711 st.memberState)).setSlot 0 (slotIn st [0])).setSlotTimer 0 (some { kind := .response, left := 0 })

def report (kind : ReportKind) (suspect : Bool) : Report :=
  { line := 0, kind := kind, vehicle := 4711, route := 240, direction := true, lateness := some 95, nearside := true
    suspect := suspect }

def unlisted (s : State) (level : Option Nat) : State := { s with params := { s.params with unlisted := level } }

/-! ### Well-formed and ill-formed commands -/

theorem test_illFormed_validFrame : Instr.wellFormed (.validFrame .a []) = false := by decide
theorem test_illFormed_crcError : Instr.wellFormed (.crcError .a []) = false := by decide
theorem test_illFormed_lengthError : Instr.wellFormed (.lengthError .b []) = false := by decide
theorem test_illFormed_reportComplete : Instr.wellFormed (.reportComplete 0 []) = false := by decide
theorem test_illFormed_lineDrain : Instr.wellFormed (.lineDrainComplete 0 (.ninth [])) = false := by decide
theorem test_illFormed_phases : Instr.wellFormed (.phases []) = false := by decide
theorem test_illFormed_accept : Instr.wellFormed (.accept []) = false := by decide
theorem test_illFormed_start : Instr.wellFormed (.start []) = false := by decide
theorem test_illFormed_deny : Instr.wellFormed (.deny []) = false := by decide
theorem test_illFormed_end : Instr.wellFormed (.endService []) = false := by decide
theorem test_illFormed_invalid : Instr.wellFormed (.invalidMessage []) = false := by decide
theorem test_illFormed_frameStart : Instr.wellFormed (.frameStart .a (List.replicate 64 (good 0))) = false := by decide
theorem test_illFormed_reportStart :
    Instr.wellFormed (.reportStart 0 false (List.replicate 8 (beaconGood 0))) = false := by decide
theorem test_illFormed_messageStart : Instr.wellFormed (.messageStart (List.replicate 7 (good 0))) = false := by decide
theorem test_wellFormed_frameStart : Instr.wellFormed (.frameStart .a (List.replicate 63 (good 0))) = true := by decide

/-! ### The spec's worked examples -/

/-- R3's reference value. -/
theorem test_crc_reference : crc [0x31, 0x32, 0x33, 0x34, 0x35, 0x36, 0x37, 0x38, 0x39] = 0x29B1 := by decide +kernel

/-- The worked report of 01_line_formats.md section 1.2. -/
theorem test_worked_report :
    readReport 0 false [0xC3, 0x01, 0x12, 0x67, 0x03, 0xC2, 0x5F, 0x01, 0x61] = some (report .checkIn false) := by
  decide +kernel

/-- The worked messages of 01_line_formats.md section 1.3: a CALL, a CANCEL and a PHASES. -/
theorem test_worked_call :
    CtrlMessage.bytes { kind := .call, call := 5, group := 3, code := some .extend, duration := 120 } =
      [0xA5, 0x01, 0x05, 0x03, 0x01, 0x00, 0x78, 0x7E] := by decide +kernel
theorem test_worked_cancel :
    CtrlMessage.bytes { kind := .cancel, call := 9, group := 7, code := none, duration := 0 } =
      [0xA5, 0x02, 0x09, 0x07, 0x00, 0x00, 0x00, 0xEE] := by decide +kernel
theorem test_worked_phases :
    readMessage [0xA5, 0x15, 0x00, 0x00, 0x00, 0x01, 0x02, 0xE8] false = .phases 0x0102 := by decide +kernel

/-- The worked levels of 04_loaded_tables.md section 4.4. -/
def leveled : State :=
  { (unlisted standby (some 1)) with
    routes := (standby.routes.set 17 { inUse := true, route := 240, direction := true, baseLevel := 3
                                       late := [30, 60, 120], cutOff := some 90, excluded := false }).set 4
      { inUse := true, route := 51, direction := false, baseLevel := 6, late := [10, 20, 40], cutOff := none
        excluded := false } }

theorem test_worked_levels :
    leveled.level 240 true (some 95) = some 5 ∧ leveled.level 240 true (some 20) = some 3 ∧
      leveled.level 240 true (some 127) = some 6 ∧ leveled.level 240 true none = some 3 ∧
      leveled.level 240 true (some (-90)) = none ∧ leveled.level 240 true (some (-89)) = some 3 ∧
      leveled.level 51 false (some 45) = some 7 ∧ leveled.level 51 true (some 45) = some 1 ∧
      leveled.level 240 false (some (-120)) = some 1 := by decide +kernel

/-! ### The machine -/

theorem witness_StepRunsFrontCommand : ({ standby with pending := [Instr.reportTake] }).pending = .reportTake :: [] := rfl

theorem witness_EmptyQueueStepOrTenth :
    (standby.pending = [] ∧ standby.due = []) ∧
      ({ standby with timeSet := true, evalDue := true, mode := .active }).due ≠ [] ∧
      ({ standby with corridorTime := 863998 }).corridorTime < 863999 ∧
      863999 ≤ ({ standby with corridorTime := 863999 }).corridorTime ∧
      ((frame 9 3 63 []).kind = 0x03 ∧ (frame 9 4 63 []).kind = 0x04 ∧ (frame 9 5 63 [9, 0, 1]).kind = 0x05 ∧
        (∀ kind ∈ ([2, 6] : List Byte), kind.toNat < 3 ∨ 5 < kind.toNat)) := by decide +kernel

/-- A settling line has no character that matters, a line in COLLECT with no character more ends nothing, and a report in
SEEK that ends early overruns. -/
theorem witness_DisallowedEventsChangeNothing :
    (standby.frameFrom .a [good 0] = none ∧ (standby.port .a).receiver ≠ .hunt ∧ (standby.port .a).sending = none ∧
      (disabledA.port .a).mode ≠ .enabled ∧
      (({ standby with portA := { standby.portA with sending := some (sent .fill) } }).port .a).sending ≠ none ∧
      (standby.port .a).holdTimer = none ∧ (standby.port .a).holdRepeat = none ∧
      ((standby.setPort .a { standby.portA with fillTimer := none }).port .a).fillTimer = none ∧
      ((standby.setPort .a { standby.portA with silenceTimer := none, silent := true }).port .a).silenceTimer = none ∧
      (standby.port .a).mode ≠ .draining ∧ (drainingA.port .a).rxMarked = true) ∧
    (((standby.setLine 7 { standby.line 7 with mode := .disabled }).line 7).mode = .disabled ∧
      ((standby.setLine 0 { standby.line 0 with mode := .quarantined }).line 0).mode = .quarantined ∧
      runChars (Assembler.char .noParity) .seek ((0xC3 :: List.replicate 9 0).map beaconGood) = .overran ∧
      (standby.line 0).assembler = .settle ∧ (standby.line 7).mode ≠ .draining ∧
      (∀ l : Fin 8, (standby.line l).buffer = none)) ∧
    (standby.record 23 = none ∧ ((onePut (bus 4711 3 .confirmed)).record 0 = some (bus 4711 3 .confirmed) ∧
        (bus 4711 3 .confirmed).holdOff = none) ∧ standby.mode ≠ .active ∧ active.evalDue = false ∧
      standby.lockout 7 = none ∧ standby.slotTimer 3 = none ∧ (standby.slot 3).state = .idle) ∧
    (standby.messageFrom [good 0] = none ∧ standby.msgReceiver = .hunt ∧
      ({ standby with msgReceiver := .collect [0xA5] false }).msgReceiver ≠ .hunt ∧ standby.output = [] ∧
      standby.controller.phaseKnown = false) ∧
    (standby.inbound = [] ∧ (asked standby [9, 0, 1]).inbound = request [9, 0, 1] :: [] ∧
      (request [9, 0, 1]).frame.kind.toNat ≠ 3 ∧ byteAt (request [9, 0, 1]).frame.body 2 ≠ 2 ∧
      byteAt (request [14]).frame.body 0 = 14 ∧
      (took standby (frame 9 3 63 [])).inbound = { port := .a, frame := frame 9 3 63 [] } :: []) := by decide +kernel

theorem witness_ResetTakesPowerOnValues :
    (1 ≤ (1 : BitVec 6).toNat ∧ (62 : BitVec 6).toNat ≤ 62) ∧ (0 : BitVec 6).toNat = 0 ∧ (63 : BitVec 6).toNat = 63 := by
  decide

theorem witness_CountingAndRaising :
    (let top := { standby with counters := standby.counters.put (.loc .unknownKind) 4294967295 }
     standby.counters.get (.loc .unknownKind) ≠ 4294967295 ∧
       (top.counters.get (.loc .unknownKind) = 4294967295 ∧ top.rollover.get .locals = false) ∧
       ({ top with rollover := top.rollover.put .locals true }).rollover.get .locals = true ∧
       CounterRef.loc .unknownKind ≠ .loc .inboundDropped) ∧
      hasCondition (0x1000 : BitVec 13) .inboundFull = true ∧ hasCondition (0 : BitVec 13) .linkCrc = false := by
  decide +kernel

theorem witness_AlertOfferedAtEventEnd :
    standby.alertDue = false ∧
      (∀ port : AlertPort, ({ standby with alertDue := true, params := { standby.params with alertPort := port } }).alertDue
        = true) := ⟨rfl, fun _ => rfl⟩

/-! ### Line formats -/

/-- A frame's characters, the last with a bad stop bit. -/
def oneBad : List SerialChar := ((frame 9 5 63 []).wire.map good).modify 7 (fun c => { c with stopGood := false })

theorem witness_FramesAndTheirCrc :
    (frame 9 5 63 (List.replicate 56 0xFF)).body.length ≤ 56 ∧
      (oneBad.map (fun c => c.data) = (frame 9 5 63 []).wire ∧ ∃ c ∈ oneBad, c.stopGood = false) ∧
      ([0, 0] : List Byte) ≠ crcBytes (frame 9 5 63 []).content ∧
      ((List.replicate 5 (good 0)).length = 5 ∧ 57 ≤ (good 57).data.toNat ∧ 57 ≤ (good 255).data.toNat) := by
  decide +kernel

/-- PARAMS at the top of every field, its notice map full. -/
def topParams : RawParams :=
  { window := 255, responseTimeout := 255, startLimit := 65535, margin := 255, denyHoldOff := 65535
    checkInGrace := 65535, noticeGrace := 65535, unlisted := 255, floor := 255, split := 255, onA := 255
    onThresholdA := 255, offThresholdA := 255, onB := 255, onThresholdB := 255, offThresholdB := 255, holdLimit := 255
    silenceLimit := 255, alertMask := 8191, alertPort := 255, mapCount := 4
    noticeMap := List.replicate 4 (255, 255), lines := List.replicate 8 (3, 1) }

theorem witness_TableBytesReadBack :
    (1 < 2 ∧ 7 < 8 ∧ 15 < 16 ∧ 255 < 256 ∧ 3 < 4 ∧ 63 < 64 ∧ 4095 < 4096) ∧
      (16383 < 16384 ∧ 127 < 128 ∧ [127, 127, 0].length = 3 ∧ ∀ t ∈ [127, 127, 0], t < 128) ∧
      (topParams.noticeMap.length = topParams.mapCount ∧ topParams.mapCount ≤ 4 ∧
        (∀ q ∈ topParams.noticeMap, q.1 < 256 ∧ q.2 < 256) ∧ topParams.lines.length = 8 ∧
        (∀ q ∈ topParams.lines, q.1 < 4 ∧ q.2 < 2) ∧ topParams.alertMask < 8192) ∧
      ({ standby with conflicts := [(0, 1), (6, 7)] }).conflicts
        = allPairs.filter (fun q => decide (q = (0, 1) ∨ q = (6, 7))) ∧
      (approach0.downAddress ≠ some 0 ∧ ApproachEntry.reset.downAddress ≠ some 0) ∧
      (([30, 60, 120] : List Nat).length ≤ 3 ∧ (∀ t ∈ [30, 60, 120], t ≠ 0) ∧ (some 90 : Option Nat) ≠ some 0) ∧
      (∀ v ∈ (unlisted standby (some 7)).params.unlisted, v < 8) := by decide +kernel

theorem witness_TableByteLayouts :
    topParams.lines[(7 : Fin 8).val]? = some (3, 1) ∧ (∀ q ∈ ([(62, 7)] : List (Nat × Nat)), q.2 < 8) ∧
      topParams.unlisted = 255 := by decide +kernel

theorem witness_ReportReadAndJudged :
    sumBytes [0x01, 0x12, 0x67, 0x03, 0xC2, 0x5F, 0x01, 0x61] % 256 = 0 ∧
      sumBytes [0x01, 0x12, 0x67, 0x03, 0xC2, 0x5F, 0x01, 0x62] % 256 ≠ 0 ∧
      (readReport 0 true [0xC3, 0x01, 0x12, 0x67, 0x03, 0xC2, 0x5F, 0x01, 0x61]).isSome = true ∧
      readReport 0 false [0xC3, 0x01, 0x12, 0x67, 0x03, 0xC2, 0x5F, 0x01, 0x62] = none := by decide +kernel

theorem witness_ControllerMessageBytes :
    standby.msgReceiver = .hunt ∧ sumBytes ([0x11, 5, 0, 0, 0, 0, 0xEA] : List Byte) % 256 = 0 ∧
      sumBytes ([0x11, 5, 0, 0, 0, 0, 0] : List Byte) % 256 ≠ 0 ∧
      (sumBytes ([0x10, 0, 0, 0, 0, 0, 0xF0] : List Byte) % 256 = 0 ∧ (0x10 : Byte).toNat < 0x11) ∧
      (sumBytes ([0x16, 0, 0, 0, 0, 0, 0xEA] : List Byte) % 256 = 0 ∧ 0x15 < (0x16 : Byte).toNat) ∧
      (let chars := List.replicate 6 (good 0) ++ [{ data := 0, stopGood := false }]
       chars.length = 7 ∧ ∃ c ∈ chars, c.stopGood = false) := by decide +kernel

/-! ### Corridor receive -/

theorem witness_CorridorReceiverStartsAndIdles :
    (huntA.port .a).receiver = .hunt ∧
      runChars Receiver.char (.header [] false) [good 9] = .going (.header [9] false) ∧
      (standby.port .a).receiver.inProgress = false ∧ Receiver.inProgress (.header [] false) = true := by decide

/-- A FILL, a HOLD, a RESUME and a routed frame end at port A in HUNT. -/
def framesEnd (kind : Byte) : Option (Receiver × RxResult) :=
  huntA.frameFrom .a ((0x7E :: (frame 9 kind 63 []).wire).map good)

theorem witness_ValidFrameActsByKind :
    (∀ kind ∈ ([0, 1, 2, 3, 255] : List Byte), framesEnd kind = some (.hunt, .valid (frame 9 kind 63 []))) ∧
      (huntA.port .a).mode = .enabled ∧ (huntA.port .a).held = false ∧
      ((huntA.setPort .a { huntA.portA with held := true }).port .a).held = true := by decide +kernel

theorem witness_FrameResultsByPortState :
    huntA.frameFrom .a ((0x7E :: (frame 9 3 63 []).content ++ [0, 0]).map good) = some (.hunt, .crcError) ∧
      huntA.frameFrom .a ([0x7E, 9, 7, 3, 63, 5, 57].map good) = some (.quiet, .lengthError) ∧
      huntA.frameFrom .a ((0x7E :: (frame 9 3 63 []).wire).map good) = some (.hunt, .valid (frame 9 3 63 [])) ∧
      (disabledA.port .a).mode = .disabled ∧ (huntA.port .a).mode = .enabled ∧
      ((drainingA.port .a).mode = .draining ∧ (drainingA.port .a).rxMarked = true) ∧
      ((drainingA.setPort .a { drainingA.portA with rxMarked := false }).port .a).rxMarked = false := by decide +kernel

theorem witness_RoutingAndConsumption :
    (standby.mode ≠ .unaddressed ∧ low6 (frame 9 5 63 []).dest = standby.address.toNat) ∧
      (low6 (frame 63 3 63 []).dest ≠ standby.address.toNat ∧ low6 (frame 63 3 63 []).dest = 63) ∧
      (State.reset.mode = .unaddressed ∧ low6 (frame 0 5 63 []).dest ≠ 63) ∧
      (took standby (frame 9 5 63 [])).inbound.length < 8 ∧
      8 ≤ ({ standby with inbound := List.replicate 8 (request []) }).inbound.length := by decide

theorem witness_RelayTestsThenAppends :
    low6 (frame 0 5 0x40 []).hop = 0 ∧ (low6 (frame 0 5 1 []).hop ≠ 0 ∧ (disabledA.port .a).mode ≠ .enabled) ∧
      (let full := standby.setPort .b { standby.portB with queue := List.replicate 95 (held (frame 0 5 1 [])) }
       (frame 0 5 1 (List.replicate 5 0)).units + usedUnits (full.port .b).queue > full.partition .b ∧
       (frame 0 5 1 []).units + usedUnits (full.port .b).queue ≤ full.partition .b) := by decide +kernel

/-! ### Corridor transmit and port control -/

/-- Port A's flow control on, port B's queue at a number of one-unit frames. -/
def fed (n : Nat) (holding : Bool) : State :=
  { standby with
    params := { standby.params with flowA := { on := true, onThreshold := 72, offThreshold := 40 } }
    portA := { standby.portA with holding := holding }
    portB := { standby.portB with queue := List.replicate n (held (frame 0 5 1 [])) } }

theorem witness_FlowControlFollowsQueue :
    ((fed 72 false).port .a).mode = .enabled ∧ ((fed 72 false).port .a).holding = false ∧
      (fed 72 false).params.flowA.onThreshold ≤ usedUnits (fed 72 false).portB.queue ∧
      usedUnits (fed 71 false).portB.queue < (fed 71 false).params.flowA.onThreshold ∧
      ((fed 40 true).port .a).holding = true ∧
      usedUnits (fed 40 true).portB.queue ≤ (fed 40 true).params.flowA.offThreshold ∧
      (fed 41 true).params.flowA.offThreshold < usedUnits (fed 41 true).portB.queue ∧
      standby.params.flowA.on = false ∧ (disabledA.port .a).mode ≠ .enabled := by decide +kernel

theorem witness_TransmitSideStartsAndEnds :
    (((standby.port .a).mode = .enabled ∧ (standby.port .a).sending = none ∧ (standby.port .a).pendingControl = none
        ∧ (standby.port .a).queue = [] ∧ (standby.port .a).fillTimer ≠ some 0) ∧
      ((standby.setPort .a { standby.portA with pendingControl := some .hold }).port .a).pendingControl = some .hold ∧
      ((standby.setPort .a { standby.portA with pendingControl := some .resume }).port .a).pendingControl = some .resume ∧
      ((standby.setPort .a { standby.portA with queue := [alert] }).port .a).queue = alert :: [] ∧
      ((standby.setPort .a { standby.portA with fillTimer := some 0, held := true }).port .a).fillTimer = some 0) ∧
    ((sent .fill).origin ≠ .queue ∧ (sent .queue).origin = .queue ∧
      ((standby.setPort .b { standby.portB with queue := [alert], sending := some (sent .queue) }).port .b).sending
        = some (sent .queue) ∧
      ((standby.setPort .b { standby.portB with queue := [alert], sending := some (sent .queue) }).port .b).queue
        = alert :: [] ∧ alert.ownAlert = true ∧ (held (frame 0 5 1 [])).ownAlert = false) := by decide +kernel

theorem witness_PortTimersAndDrain :
    ((drainingA.port .a).mode = .draining ∧ (drainingA.port .a).rxMarked = true ∧ (drainingA.port .a).txMarked = false) ∧
      ((standby.port .a).mode = .enabled ∧ (standby.port .a).fillTimer.isSome = true ∧
        (standby.port .a).sending = none ∧ (standby.port .a).pendingControl = none ∧ (standby.port .a).queue = [] ∧
        (standby.port .a).silenceTimer.isSome = true ∧ (standby.port .a).holdTimer = none) ∧
      ((standby.setPort .a { standby.portA with held := true, holdTimer := some 0 }).port .a).holdTimer.isSome = true ∧
      ((standby.setPort .a { standby.portA with holding := true, holdRepeat := some 0 }).port .a).holdRepeat.isSome
        = true ∧
      ((standby.setPort .a { standby.portA with pendingControl := some .hold }).port .a).pendingControl ≠ none := by
  decide

theorem witness_PortControlActions :
    (RequestAtHead (asked standby [9, 0, 0]) (request [9, 0, 0]) [] 0x09 ∧ portOfCode (byteAt [9, 0, 0] 1) = some .a ∧
        portOfCode (byteAt [9, 1, 2] 1) = some .b) ∧
      ((asked standby [9, 0, 1]).port .a).mode = .enabled ∧ ((asked disabledA [9, 0, 1]).port .a).mode = .disabled ∧
      ((asked disabledA [9, 0, 2]).counters.get (.port .a .flushed)).toNat
        + ((asked disabledA [9, 0, 2]).port .a).queue.length < 4294967296 :=
  ⟨⟨asked_head _ _ _ (by decide), by decide, by decide⟩, by decide, by decide, by decide +kernel⟩

/-! ### Beacon lines -/

def seeking (mode : LineMode) : State := standby.setLine 0 { standby.line 0 with mode := mode, assembler := .seek }
def collecting (mode : LineMode) : State :=
  standby.setLine 0 { standby.line 0 with mode := mode, assembler := .collect [0xC3] false false }

def workedChars : List BeaconChar := [0x01, 0x12, 0x67, 0x03, 0xC2, 0x5F, 0x01, 0x61].map beaconGood
def faultyChars : List BeaconChar := [0x01, 0x12, 0x67, 0x03, 0xC2, 0x5F, 0x01, 0x62].map beaconGood

def rawWorked (parityMark framingMark : Bool) : RawReport :=
  { chars := [0xC3, 0x01, 0x12, 0x67, 0x03, 0xC2, 0x5F, 0x01, 0x61], parityMark := parityMark, framingMark := framingMark }

theorem witness_AssemblerStartsAndIdles :
    (((seeking .enabled).line 0).mode = .enabled ∧ ((seeking .enabled).line 0).assembler = .seek) ∧
      ((seeking .draining).line 0).mode = .draining ∧
      runChars (Assembler.char .noParity) (.collect [0xC3] false false) [beaconGood 1]
        = .going (.collect [0xC3, 1] false false) ∧
      ([0xC3] : List Byte).length < 8 ∧ (List.replicate 7 (0xC3 : Byte)).length < 8 ∧
      (standby.line 0).assembler = .settle ∧
      ((collecting .enabled).line 0).assembler = .collect [0xC3] false false ∧
      ((collecting .draining).line 0).assembler = .collect [0xC3] false false ∧
      8 ≤ ({ (collecting .enabled).line 0 with streak := 7 }).streak + 1 := by decide +kernel

/-- R51: of a report's characters each is judged under the parity setting in force as it arrives. The first part comes
under odd parity, with a parity fault; the rest under no parity, where none is found, and the mark stays. -/
theorem test_parity_of_each_part :
    let odd := { collecting .enabled with
      params := { standby.params with lines := standby.params.lines.set 0 { parity := .oddParity, suspectAccept := false } } }
    (match exec (.reportComplete 0 [beaconGood 0x81]) odd with
     | .next t => decide ((t.line 0).assembler = .collect [0xC3, 0x81] true false)
     | _ => false) = true ∧
    (match exec (.reportComplete 0 [beaconGood 0x81]) (collecting .enabled) with
     | .next t => decide ((t.line 0).assembler = .collect [0xC3, 0x81] false false)
     | _ => false) = true := by decide +kernel

theorem witness_EnabledLineDealsByClass :
    (collecting .enabled).reportFrom 0 workedChars = some (rawWorked false false) ∧
      judge 0 (rawWorked false false) = .clean (report .checkIn false) ∧
      judge 0 (rawWorked true false) = .parity (report .checkIn true) ∧ judge 0 (rawWorked true true) = .framing ∧
      judge 0 { rawWorked false false with chars := [] } = .checksum ∧
      ((collecting .enabled).params.lines[0]).suspectAccept = false ∧ ((collecting .enabled).line 0).buffer = none ∧
      (({ (collecting .enabled).line 0 with buffer := some (report .cancel false) }).buffer ≠ none) := by decide +kernel

theorem witness_LineControlAndDrain :
    (((collecting .draining).line 0).mode = .draining ∧
        ((collecting .draining).line 0).assembler = .collect [0xC3] false false ∧
        (collecting .draining).reportFrom 0 workedChars = some (rawWorked false false) ∧
        judge 0 (rawWorked false false) = .clean (report .checkIn false) ∧
        judge 0 (rawWorked true false) = .parity (report .checkIn true) ∧ judge 0 (rawWorked false true) = .framing ∧
        ((collecting .draining).reportFrom 0 faultyChars).map (judge 0) = some .checksum) ∧
      RequestAtHead (asked (collecting .enabled) [10, 0, 0]) (request [10, 0, 0]) [] 0x0A ∧
      RequestAtHead (asked standby [10, 7, 1]) (request [10, 7, 1]) [] 0x0A ∧ byteAt [10, 7, 1] 1 = (7 : Fin 8).val ∧
      (standby.line 7).mode = .enabled ∧
      ((standby.setLine 7 { standby.line 7 with mode := .quarantined }).line 7).mode = .quarantined ∧
      ((standby.setLine 7 { standby.line 7 with mode := .disabled }).line 7).mode = .disabled :=
  ⟨by decide +kernel, asked_head _ _ _ (by decide), asked_head _ _ _ (by decide), by decide, by decide, by decide,
    by decide⟩

def holdsReport (s : State) (kind : ReportKind) : State :=
  s.setLine 0 { s.line 0 with buffer := some (report kind false) }

theorem witness_ReportTakenInTurn :
    (((holdsReport standby .checkIn).line 0).buffer = some (report .checkIn false) ∧
        ∀ j : Fin 8, ((holdsReport standby .checkIn).line j).buffer.isSome = true →
          (0 - standby.reportPointer - 1).val ≤ (j - standby.reportPointer - 1).val) ∧
      standby.mode ≠ .active ∧ active.mode = .active ∧
      ((active.approach 0).inUse = true ∧ (active.approach 0).checkIn = some (report .checkIn false).line) ∧
      (∀ ap : Fin 8, (standby.approach ap).inUse = true → (standby.approach ap).checkIn ≠ some 0) ∧
      ((active.approach 0).checkOut = some 1 ∧
        ∀ ap : Fin 8, (active.approach ap).inUse = true → (active.approach ap).checkOut ≠ some 0) := by decide +kernel

/-! ### The request table -/

theorem witness_LevelOfABus :
    (∀ i : Fin 64, ¬ (leveled.routes[i].inUse = true ∧ leveled.routes[i].route = 51 ∧
        leveled.routes[i].direction = true)) ∧
      (leveled.routes[17].inUse = true ∧ leveled.routes[17].route = 240 ∧ leveled.routes[17].excluded = false ∧
        leveled.routes[17].cutOff = some 90 ∧ (-90 : Int) ≤ -((90 : Nat) : Int) ∧ -((90 : Nat) : Int) < (-89 : Int)) ∧
      (∀ j : Fin 64, j < 17 → ¬ (leveled.routes[j].inUse = true ∧ leveled.routes[j].route = 240 ∧
        leveled.routes[j].direction = true)) := by decide +kernel

/-- Every slot holds a WAITING record, the last one as given. -/
def fullTable (last : Record) : State :=
  { active with records := (Vector.replicate 24 (some (bus 1 3 .confirmed))).set 23 (some last) }

theorem witness_CheckInHandled :
    ((∀ r : Fin 24, ∀ x ∈ active.record r, x.vehicle ≠ (report .checkIn false).vehicle) ∧
        active.level 240 true (some 95) = none ∧ (unlisted active (some 7)).level 240 true (some 95) = some 7 ∧
        active.record 0 = none) ∧
      ((∀ r : Fin 24, ∀ x ∈ (unlisted (fullTable (bus 2 3 .forecast)) (some 0)).record r, x.vehicle ≠ 4711) ∧
        (∀ r : Fin 24, ((unlisted (fullTable (bus 2 3 .forecast)) (some 0)).record r).isSome = true) ∧
        (unlisted (fullTable (bus 2 3 .forecast)) (some 0)).level 240 true (some 95) = some 0) ∧
      ((onePut (bus 4711 3 .forecast)).record 0 = some (bus 4711 3 .forecast) ∧
        (∀ q : Fin 24, q ≠ 0 → ∀ y ∈ (onePut (bus 4711 3 .forecast)).record q, y.vehicle ≠ 4711) ∧
        (bus 4711 3 .forecast).state = .waiting ∧ (member 4711 .serving).state ≠ .waiting ∧
        (bus 4711 3 .forecast).approach = 0 ∧ (bus 4711 3 .forecast).approach ≠ 1) := by decide +kernel

theorem witness_FullTableVictim :
    (∀ r : Fin 24, ((fullTable (bus 2 3 .forecast)).record r).isSome = true) ∧
      (∀ q : Fin 24, ∀ z ∈ (fullTable (bus 2 3 .forecast)).record q, z.state = .waiting ∧ z.basis = .forecast →
        (200 < z.lifetime ∨ (200 = z.lifetime ∧ 23 ≤ q))) ∧
      ((fullTable (bus 2 2 .confirmed)).record 23 = some (bus 2 2 .confirmed) ∧ (bus 2 2 .confirmed).level < 3 ∧
        ∀ q : Fin 24, ∀ z ∈ (fullTable (bus 2 2 .confirmed)).record q, z.state = .waiting ∧ z.level < 3 →
          (2 < z.level ∨ (2 = z.level ∧ (z.eta < 100 ∨ (z.eta = 100 ∧ q ≤ 23))))) ∧
      (∀ q : Fin 24, ∀ z ∈ (fullTable (bus 2 3 .confirmed)).record q, z.basis ≠ .forecast ∧ ¬ z.level < 3) := by
  decide +kernel

theorem witness_CheckOutCancelWithdraw :
    ((called .serving).record 0 = some (member 4711 .serving) ∧
        (∀ q : Fin 24, q ≠ 0 → ∀ y ∈ (called .serving).record q, y.vehicle ≠ 4711)) ∧
      (member 4711 .granted).state ≠ .serving ∧ (report .checkOut true).suspect = true ∧
      RequestAtHead (asked (called .serving) [8, 0x12, 0x67]) (request [8, 0x12, 0x67]) [] 0x08 ∧
      word16At [8, 0x12, 0x67] 1 = 4711 ∧ word16At [8, 0, 0] 1 = 0 :=
  ⟨by decide +kernel, by decide, by decide, asked_head _ _ _ (by decide), by decide, by decide⟩

theorem witness_RemovalAndRecordTimers :
    ((onePut (bus 4711 3 .confirmed)).record 0 = some (bus 4711 3 .confirmed) ∧ (bus 4711 3 .confirmed).callSlot = none) ∧
      ((called .called).record 0 = some (member 4711 .called) ∧ (member 4711 .called).callSlot = some 0 ∧
        ((called .called).slot 0).members.filter (fun m => m ≠ 0) = [] ∧
        ((called .called).slot 0).state.isOpen = true) ∧
      (slotIn .called [0, 1]).members.filter (fun m => m ≠ 0) ≠ [] ∧
      ({ bus 4711 3 .confirmed with holdOff := some 0 }).holdOff.isSome = true := by decide +kernel

theorem witness_NoticeQueuedOrUnsent :
    (standby.approach 0).downDirection = none ∧ (active.approach 0).downDirection = some .b ∧
      ((active.port .b).mode = .enabled ∧ (active.port .b).silent = false ∧
        usedUnits (active.port .b).queue + 2 ≤ active.partition .b) ∧
      ((active.setPort .b { active.portB with mode := .draining }).port .b).mode ≠ .enabled := by decide +kernel

/-- A NOTICE of vehicle 4711, route 240 in direction 1, from junction 7. -/
def notice : LinkFrame := frame 9 0x04 63 [0x12, 0x67, 0x03, 0xC2, 0x5F, 0x01, 0xF4]

def mapped (s : State) : State := { s with params := { s.params with noticeMap := [(7, 0)] } }

theorem witness_NoticeTaken :
    (took standby notice).inbound = { port := .a, frame := notice } :: [] ∧ notice.kind = 0x04 ∧
      (7 ≤ notice.body.length ∧ word16At notice.body 0 = 4711 ∧ word16At notice.body 2 / 4 = 240 ∧
        word16At notice.body 5 = 500) ∧ standby.mode ≠ .active ∧
      (∀ q ∈ (took active notice).params.noticeMap, q.1 = 7 → ((took active notice).approach q.2).inUse = false) ∧
      ((mapped active).params.noticeMap.find? (fun q => q.1 = 7) = some (7, 0) ∧
        ((mapped active).approach 0).inUse = true) ∧
      (∀ r : Fin 24, ((fullTable (bus 2 3 .forecast)).record r).isSome = true) ∧
      (bus 4711 3 .suspect).basis = .suspect ∧ (bus 4711 3 .confirmed).basis ≠ .suspect := by decide +kernel

/-! ### The call arbiter -/

def marked (s : State) : State := { s with evalDue := true }

theorem witness_EvaluationTakenInOrder :
    ((marked active).mode = .active ∧ (marked active).evalDue = true) ∧ standby.mode ≠ .active ∧
      active.evalDue = false ∧ (onePut (bus 4711 3 .confirmed)).chosenKind (bus 4711 3 .confirmed) = some .extend := by
  decide +kernel

/-- Two buses on approach 0: the one in slot 0 opens, the one in slot 1 joins. -/
def twoWaiting : State := (onePut (bus 4711 3 .confirmed)).setRecord 1 (some (bus 5000 2 .confirmed))

/-- A call slot holds number 15, a slot that is not open, and approach 3. -/
def fifteenHeld : State :=
  { twoWaiting.setSlot 0 { slotIn .closing [] with call := some 15, approach := some 3, cause := some .withdraw } with
    nextCall := 15 }

theorem witness_JoinsAndOpeningsMadeInOrder :
    (active.record 1 = none ∧ (onePut (bus 4711 3 .confirmed)).record 0 = some (bus 4711 3 .confirmed) ∧
      ∀ k : Fin 4, ((onePut (bus 4711 3 .confirmed)).slot k).state.isOpen = true →
        ((onePut (bus 4711 3 .confirmed)).slot k).approach ≠ some 0) ∧
    (let s := (called .called).setRecord 1 (some (bus 5000 2 .confirmed))
     s.record 1 = some (bus 5000 2 .confirmed) ∧ (s.slot 0).state.isOpen = true ∧
       (s.slot 0).approach = some (bus 5000 2 .confirmed).approach ∧ (s.slot 0).kind = some .extend ∧
       s.eligible (bus 5000 2 .confirmed) .extend = true ∧ s.eligible (bus 5000 2 .confirmed) .jump = false) ∧
    (active.openNext = none ∧ twoWaiting.openNext.isSome = true) ∧
    (standby.controller.phaseKnown = false ∧ twoWaiting.params.window = 2 ∧
      twoWaiting.candidates = [] ++ 0 :: [1] ∧ twoWaiting.record 0 = some (bus 4711 3 .confirmed) ∧
      twoWaiting.chosenKind (bus 4711 3 .confirmed) = some .extend ∧ (twoWaiting.slot 0).state = .idle ∧
      twoWaiting.nextCall = 1) ∧
    (fifteenHeld.nextCall ≤ 15 ∧ (fifteenHeld.slot 0).state ≠ .idle ∧ (fifteenHeld.slot 0).call = some 15 ∧
      (fifteenHeld.slot 1).state = .idle ∧ (15 - 1 + 0) % 15 + 1 = 15 ∧ (15 - 1 + 1) % 15 + 1 = 1 ∧
      fifteenHeld.candidates = [] ++ 0 :: [1] ∧
      (List.finRange 4).countP (fun k => decide ((fifteenHeld.slot k).state ≠ .idle)) < fifteenHeld.params.window ∧
      (fifteenHeld.openNext.map (fun u => (u.slot 1).call)) = some (some 1)) := by decide +kernel

theorem witness_OpeningSetsSlot : ((onePut (bus 4711 3 .confirmed)).openNext).isSome = true := by decide +kernel

theorem witness_NoCallWhileControllerClosed :
    State.reset.controller.ready = .busy ∧ ({ active.controller with unresponsive := true }).unresponsive = true ∧
      standby.controller.phaseKnown = false ∧ exec .reportTake standby = .next standby :=
  ⟨rfl, rfl, rfl, rfl⟩

/-- Approach 1 conflicts with approach 0, whose slot is CALLED at level 3; a level 7 bus waits on approach 1. -/
def blocked : State :=
  { (called .called).setRecord 1 (some { bus 5000 7 .confirmed with approach := 1 }) with
    approaches := active.approaches.set 1 approach0, conflicts := [(0, 1)] }

theorem witness_PreemptionClosesSlots :
    ((called .called).slot 0).approach = some 0 ∧ blocked.preempted = [0] ∧
      (blocked.params.margin ≠ 0 ∧ blocked.controller.ready = .ready ∧ blocked.controller.unresponsive = false ∧
        blocked.controller.phaseKnown = true ∧
        blocked.candidates.find? (fun q => (blocked.record q).any (fun z => (blocked.chosenKind z).isSome)) = some 1 ∧
        blocked.record 1 = some { bus 5000 7 .confirmed with approach := 1 } ∧
        (∀ j : Fin 4, (blocked.slot j).state ≠ .idle → (blocked.slot j).approach ≠ some 1) ∧
        (∀ j : Fin 4, (blocked.slot j).state ≠ .closing) ∧
        (∀ j : Fin 4, ∀ m ∈ (blocked.slot j).members, ∀ z ∈ blocked.record m, z.level + blocked.params.margin ≤ 7)) := by
  decide +kernel

/-! ### The phase port -/

/-- A whole valid message of a kind and a call number. -/
def msg (kind call code : Byte) : List SerialChar :=
  [0xA5, kind, call, 0, code, 0, 0, byteOf (1024 - kind.toNat - call.toNat - code.toNat)].map good

theorem witness_ControllerStatusEvents :
    standby.controller.ready ≠ .busy ∧ standby.messageFrom (msg 0x15 0 0) = some (.phases 0) ∧
      active.controller.phaseKnown = true ∧ ((active.setLockout 7 (some 0)).lockout 7).isSome = true ∧
      standby.msgReceiver = .hunt ∧
      runChars MsgReceiver.char (.collect [0xA5] false) [good 1] = .going (.collect [0xA5, 1] false) ∧
      standby.messageFrom (msg 0x16 0 0) = some .invalid ∧
      ({ standby with msgReceiver := .collect [0xA5] true }).msgReceiver = .collect [0xA5] true ∧
      ({ standby with output := [standby.compose .cancel 0] }).output = standby.compose .cancel 0 :: [] := by
  decide +kernel

theorem witness_StrayMessagesAreCounted :
    (∀ n ∈ ([0, 1, 15, 16] : List Byte), standby.messageFrom (msg 0x11 n 0) = some (.accept n.toNat)) ∧
      standby.messageFrom (msg 0x13 1 0) = some (.start 1) ∧
      standby.messageFrom (msg 0x12 1 2) = some (.deny 1 .never) ∧
      standby.messageFrom (msg 0x14 1 1) = some (.endService 1 .normal) ∧
      (∀ k : Fin 4, (standby.slot k).state ≠ .idle → (standby.slot k).call ≠ some 1) ∧
      (∀ st ∈ [SlotState.granted, .serving, .closing], ((called st).slot 0).call = some 1 ∧
        ((called st).slot 0).state = st ∧
        ∀ j : Fin 4, j ≠ 0 → ((called st).slot j).state ≠ .idle → ((called st).slot j).call ≠ some 1) := by
  decide +kernel

theorem witness_SlotMessagesAdvanceOrFree :
    (∀ st ∈ [SlotState.called, .granted, .serving, .closing], (called st).slotOfCall 1 = some 0 ∧
        ((called st).slot 0).approach = some 0 ∧ ((called st).slot 0).duration = some 50 ∧
        ((called st).slot 0).state = st) ∧
      (called .called).messageFrom (msg 0x11 1 0) = some (.accept 1) ∧
      (called .called).messageFrom (msg 0x13 1 0) = some (.start 1) ∧
      (called .called).messageFrom (msg 0x12 1 1) = some (.deny 1 .notNow) ∧
      (called .called).messageFrom (msg 0x12 1 2) = some (.deny 1 .never) ∧
      (called .called).messageFrom (msg 0x14 1 1) = some (.endService 1 .normal) ∧
      (called .called).messageFrom (msg 0x14 1 2) = some (.endService 1 .overridden) ∧
      (called .called).messageFrom (msg 0x14 1 3) = some (.endService 1 .cancelled) := by decide +kernel

theorem witness_SlotIdlesAndMembersReturn :
    (slotIn .called [0]).wasServing = false ∧ ({ slotIn .closing [] with wasServing := true }).wasServing = true ∧
      (active.approach 0).lockout ≠ 0 ∧ (active.approach 1).lockout = 0 ∧
      ((called .called).record 0 = some (member 4711 .called) ∧ (member 4711 .called).retry < 2) ∧
      2 ≤ ({ member 4711 .called with retry := 2 }).retry := by decide +kernel

theorem witness_SlotTimersRunOut :
    (∀ st ∈ [SlotState.called, .closing], (called st).slotTimer 0 = some { kind := .response, left := 0 } ∧
        ((called st).slot 0).state = st) ∧
      (((called .granted).setSlotTimer 0 (some { kind := .startLimit, left := 0 })).slotTimer 0).isSome = true ∧
      (((called .serving).setSlotTimer 0 (some { kind := .serviceLimit, left := 0 })).slotTimer 0).isSome = true ∧
      active.controller.timeoutCount < 2 ∧ 2 ≤ ({ active.controller with timeoutCount := 2 }).timeoutCount := by
  decide +kernel

/-! ### The local frame handler and the management unit -/

theorem witness_HandlerTakesFramesAndReplies :
    ((took standby (frame 63 3 63 [0x0D, 0x2E, 0xFF])).inbound
        = { port := .a, frame := frame 63 3 63 [0x0D, 0x2E, 0xFF] } :: [] ∧
      word24At [0x0D, 0x2E, 0xFF] 0 = 863999 ∧ 863999 < word24At [0x0D, 0x2F, 0x00] 0 ∧
      6 ≤ (frame 9 6 63 []).kind.toNat) ∧
    RequestAtHead (asked standby []) (request []) [] 0 ∧ RequestAtHead (asked standby [15]) (request [15]) [] 15 ∧
      (∀ u ∈ [1, 5], u ≤ standby.partition .a) ∧
      standby.partition .a
        < 1 + usedUnits (List.replicate 96 (held (frame 0 5 1 []))) :=
  ⟨by decide +kernel, asked_head _ _ _ (by decide), asked_head _ _ _ (by decide), by decide, by decide +kernel⟩

theorem witness_ReadsAnswerAndKeepState :
    (∀ leaf ∈ ([0, 1, 2, 3, 4] : List Byte), RequestAtHead (asked standby [1, leaf]) (request [1, leaf]) [] 0x01) ∧
      RequestAtHead (asked standby [2]) (request [2]) [] 0x02 ∧
      (RequestAtHead (asked standby [3, 1, 63, 6]) (request [3, 1, 63, 6]) [] 0x03 ∧
        byteAt [3, 1, 63, 6] 2 ≤ Table.lastIndex .route ∧ byteAt [3, 1, 63, 6] 3 ≤ Table.maxCount .route ∧
        Table.lastIndex .approach < byteAt [3, 0, 8, 3] 2 ∧ Table.maxCount .approach < byteAt [3, 0, 7, 4] 3) ∧
      (RequestAtHead (asked standby [6, 23]) (request [6, 23]) [] 0x06 ∧ byteAt [6, 23] 1 ≤ 23 ∧
        23 < byteAt [6, 24] 1) ∧
      RequestAtHead (asked standby [7]) (request [7]) [] 0x07 :=
  ⟨fun _ _ => asked_head _ _ _ rfl, asked_head _ _ _ (by decide), ⟨asked_head _ _ _ (by decide), by decide⟩,
    ⟨asked_head _ _ _ (by decide), by decide⟩, asked_head _ _ _ (by decide)⟩

/-- VERIFY TABLE of ROUTE from an index, ascending, with the reset contents for each of a count of entries. -/
def verifyBody (start count : Byte) : List Byte :=
  [5, 1, start, 0, count] ++ (List.range count.toNat).flatMap (fun _ => RouteEntry.reset.raw.toBytes)

theorem witness_VerifyTableWalks :
    RequestAtHead (asked standby (verifyBody 63 2)) (request (verifyBody 63 2)) [] 0x05 ∧
      (5 ≤ (verifyBody 63 2).length ∧ byteAt (verifyBody 63 2) 1 = Table.code .route ∧
        byteAt (verifyBody 63 2) 2 ≤ Table.lastIndex .route ∧
        (verifyBody 63 2).length
          = 5 + byteAt (verifyBody 63 2) 4 * Table.suppliedLength .route ((verifyBody 63 2).drop 5)) ∧
      standby.sameEntry .route 63 RouteEntry.reset.raw.toBytes = true ∧
      standby.sameEntry .route 63 (List.replicate 6 0xFF) = false ∧
      (standby.sameEntry .approach 7 ApproachEntry.reset.raw.toBytes = true ∧
        standby.sameEntry .conflicts 0 [0] = true ∧ standby.sameEntry .conflicts 0 [1, 0x11] = false ∧
        standby.sameEntry .params 0 standby.params.raw.toBytes = true) :=
  ⟨asked_head _ _ _ (by decide +kernel), by decide +kernel, by decide +kernel, by decide +kernel, by decide +kernel⟩

theorem witness_ReplyLayouts :
    standby.mode ≠ .unaddressed ∧ active.mode = .active ∧
      (onePut (bus 4711 3 .confirmed)).record 0 = some (bus 4711 3 .confirmed) ∧
      (let s := called .called
       let members := (s.slot 0).members ++ (s.slot 1).members ++ (s.slot 2).members ++ (s.slot 3).members
       members[0]? = some 0 ∧ 5 * members.length ≤ 5 ∧ 5 < 8 * (s.slotTableBytes.drop 37).length) := by decide +kernel

/-- WRITE ENTRY of ROUTE entry 0 with the reset contents, naming a generation. -/
def writeBody (gen : Byte) : List Byte := [4, 1, 0, 0, gen, 0] ++ RouteEntry.reset.raw.toBytes

theorem witness_WriteEntryTestsAndWrites :
    (RequestAtHead (asked standby (writeBody 0)) (request (writeBody 0)) [] 0x04 ∧
        RequestAtHead (asked active [4, 2, 0, 0, 0, 0, 0]) (request [4, 2, 0, 0, 0, 0, 0]) [] 0x04) ∧
      (byteAt (writeBody 0) 1 = Table.code .route ∧ byteAt (writeBody 0) 5 ≤ 1 ∧
        6 + Table.contentLength .route ((writeBody 0).drop 6) ≤ (writeBody 0).length) ∧
      (standby.entryGen .route 0).toNat = word16At (writeBody 0) 3 ∧
      (standby.entryGen .route 0).toNat ≠ word16At (writeBody 1) 3 ∧
      (standby.writeContents .route 0 false RouteEntry.reset.raw.toBytes).2.status = .done ∧
      firstFailure (RawRoute.ofBytes RouteEntry.reset.raw.toBytes).fieldChecks = none :=
  ⟨⟨asked_head _ _ _ (by decide +kernel), asked_head _ _ _ (by decide)⟩, by decide +kernel, by decide +kernel,
    by decide +kernel, by decide +kernel, by decide +kernel⟩

theorem witness_ApproachWritesChecked :
    let raw := fun (e : ApproachEntry) => RawApproach.ofBytes e.raw.toBytes
    (FirstFails (approachTests standby 7 (raw { approach0 with phaseGroup := 0 })) 0x01 2 ∧
      FirstFails (approachTests standby 7 (raw { approach0 with phaseGroup := 17 })) 0x01 2 ∧
      FirstFails (approachTests standby 7 (raw { approach0 with downAddress := none })) 0x02 14 ∧
      FirstFails (approachTests standby 7 (raw { approach0 with downAddress := some 63 })) 0x01 14 ∧
      FirstFails (approachTests standby 7 (raw { approach0 with downTravel := 3001 })) 0x01 15 ∧
      FirstFails (approachTests active 7 (raw approach0)) 0x04 0 ∧
      FirstFails (approachTests standby 7 (raw { approach0 with downAddress := some 9 })) 0x05 14) ∧
    AllPass (approachTests active 0 (raw approach0)) ∧ AllPass (approachTests active 7 (raw .reset)) := by decide +kernel

/-- A ROUTE entry in use under key 1, direction 0, with late thresholds. -/
def route1 (late : List Nat) : RawRoute :=
  { inUse := 1, direction := 0, route := 1, excluded := 0, cutOff := 0, baseLevel := 0, places := late }

def routed : State := standby.storeRoute 5 (route1 [0, 0, 0]).entry

theorem witness_RouteAndConflictsWritesChecked :
    (FirstFails (routeTests { route1 [0, 0, 0] with route := 0 }) 0x01 2 ∧
      FirstFails (routeTests { route1 [0, 0, 0] with route := 10000 }) 0x01 2 ∧
      FirstFails (routeTests (route1 [0, 1, 0])) 0x02 5 ∧ FirstFails (routeTests (route1 [2, 2, 0])) 0x03 5 ∧
      AllPass (routeTests (route1 [1, 2, 127])) ∧ RawRoute.ofBytes (route1 [1, 2, 127]).toBytes = route1 [1, 2, 127]) ∧
    (routed.routes[5].inUse = true ∧ routed.routes[5].route = 1 ∧ routed.routes[5].direction = false ∧
      (∀ j : Fin 64, j ≠ 5 → routed.routes[j].inUse = false)) ∧
    (28 < byteAt [29] 0 ∧ byteAt [28] 0 ≤ 28 ∧
      (rawPairs [2, 0x01, 0x11])[1]? = some (1, 1) ∧ (rawPairs [1, 0x78])[0]? = some (7, 8) ∧
      rawPairs [2, 0x10, 0x76] = [(1, 0), (7, 6)] ∧ conflictSet [(1, 0), (7, 6)] = [(0, 1), (6, 7)]) := by decide +kernel

/-- The power-on PARAMS in numbers, with another split. -/
def splitTo (split : Nat) : RawParams := { standby.params.raw with split := split }

theorem witness_ParamsWritesChecked :
    (FirstFails (paramsTests standby (splitTo 39)) 0x01 10 ∧ FirstFails (paramsTests standby (splitTo 153)) 0x01 10 ∧
      FirstFails (paramsTests standby { splitTo 96 with offThresholdA := 72 }) 0x07 0 ∧
      FirstFails (paramsTests standby { splitTo 96 with mapCount := 2, noticeMap := [(1, 0), (1, 7)] }) 0x09 1 ∧
      (∀ split ∈ [40, 72, 120, 121, 152], AllPass (paramsTests standby (splitTo split)) ∧
        RawParams.ofBytes (splitTo split).toBytes = splitTo split)) ∧
    (40 < usedUnits (List.replicate 41 (held (frame 0 5 1 []))) ∧ 40 ≠ standby.params.split) ∧
    (40 < (splitTo 40).onThresholdA ∧ (splitTo 121).onThresholdA ≤ 121 ∧ 192 - 121 < (splitTo 121).onThresholdB ∧
      (splitTo 120).onThresholdB ≤ 192 - 120) := by decide +kernel

theorem witness_RetirementClearsApproach :
    firstFailure ((called .serving).approachChecks 0 (RawApproach.ofBytes approach0.raw.toBytes)) = none ∧
      (called .serving).busy 0 = true ∧ active.busy 0 = false ∧ active.record 1 = none ∧
      (((called .serving).slot 0).state.isOpen = true ∧ ((called .serving).slot 0).approach = some 0) ∧
      (∀ k : Fin 4, (active.slot k).state.isOpen = true → (active.slot k).approach ≠ some 0) := by decide +kernel

theorem witness_BadArgumentsAnswered :
    (∀ body ∈ ([[1], [3, 0, 0], [3, 4, 0, 1], [4, 4, 0, 0, 0, 0, 0], [4, 1, 64, 0, 0, 0, 0], [5, 0, 0, 0], [5, 0, 0, 2, 1],
        [6], [9, 0], [9, 0, 3], [9, 2, 0], [9, 2, 1], [9, 2, 2], [10, 0], [10, 0, 2], [10, 8, 0], [10, 8, 1]]
          : List (List Byte)), RequestAtHead (asked standby body) (request body) [] (byteAt body 0)) ∧
      Table.lastIndex .route < byteAt [4, 1, 64, 0, 0, 0, 0] 2 :=
  ⟨fun _ _ => asked_head _ _ _ rfl, by decide⟩

theorem witness_CountersAndAttentionRead :
    (RequestAtHead (asked standby [11, 4, 15, 1]) (request [11, 4, 15, 1]) [] 0x0B ∧
        (counterSet (byteAt [11, 4, 15, 1] 1) (byteAt [11, 4, 15, 1] 2)).isSome = true ∧
        counterSet (byteAt [11, 4, 16, 1] 1) (byteAt [11, 4, 16, 1] 2) = none ∧ 1 < byteAt [11, 0, 0, 2] 3) ∧
      RequestAtHead (asked standby [12]) (request [12]) [] 0x0C ∧
      ((7 : Nat) = (7 : Fin 8).val ∧ (15 : Nat) = 8 + (7 : Fin 8).val) :=
  ⟨⟨asked_head _ _ _ (by decide), by decide⟩, asked_head _ _ _ (by decide), by decide⟩

theorem witness_CommissionAndDecommission :
    (RequestAtHead (asked standby [13]) (request [13]) [] 0x0D ∧ standby.mode = .standby ∧ active.mode ≠ .standby ∧
        FirstFails (commissionTests standby) 0x0A 0 ∧ AllPass (commissionTests active) ∧
        FirstFails (commissionTests { active with address := 10 }) 0x0B 0 ∧
        FirstFails (commissionTests { active with approaches := active.approaches.set 7 approach0 }) 0x0C 7 ∧
        FirstFails (commissionTests (mapped { active with approaches := standby.approaches.set 1 approach0 })) 0x0D 0 ∧
        FirstFails (commissionTests { active with conflicts := [(0, 7)] }) 0x0E 7) ∧
      RequestAtHead (asked active [14]) (request [14]) [] 0x0E ∧ (called .serving).record 0 = some (member 4711 .serving) :=
  ⟨⟨asked_head _ _ _ (by decide), rfl, by decide, by decide +kernel⟩, asked_head _ _ _ (by decide), by decide +kernel⟩

/-! ### What every step keeps -/

/-- The state after reset meets the two queue laws and takes a step. -/
theorem witness_QueuesAndAlertsStayLawful :
    QueuesFit standby ∧ AlertsCounted standby ∧ ∃ t, step standby = .next t :=
  ⟨by unfold QueuesFit; decide +kernel, by unfold AlertsCounted; decide +kernel, _, rfl⟩

theorem witness_PortsAndLinesStayLawful : PortsLawful standby ∧ LinesLawful standby ∧ ∃ t, step standby = .next t := by
  refine ⟨⟨⟨?_, ?_, ?_⟩, ?_, ?_, ?_⟩, ?_, _, rfl⟩
  · intro y hy
    exact nomatch hy
  · exact ⟨rfl, rfl⟩
  · unfold timersFit
    decide +kernel
  · intro y hy
    exact nomatch hy
  · exact ⟨rfl, rfl⟩
  · unfold timersFit
    decide +kernel
  · intro l
    have h : standby.line l = .reset := by simp [standby, State.afterReset, State.line]
    rw [h]
    refine ⟨?_, fun rep hr => nomatch hr⟩
    change 0 < Config.quarantineStreak
    decide

theorem witness_RecordsStayLawful : RecordsLawful standby ∧ ∃ t, step standby = .next t :=
  ⟨by unfold RecordsLawful; decide +kernel, _, rfl⟩

theorem witness_QuietOutsideActiveStays : QuietOutsideActive standby ∧ ∃ t, step standby = .next t :=
  ⟨by unfold QuietOutsideActive; decide +kernel, _, rfl⟩

theorem witness_CallsStayLawful : CallsLawful standby ∧ ∃ t, step standby = .next t := by
  have hs : ∀ k : Fin 4, standby.slot k = .idle := by
    intro k
    simp [standby, State.afterReset, State.slot]
  have ht : ∀ k : Fin 4, standby.slotTimer k = none := by
    intro k
    simp [standby, State.afterReset, State.slotTimer]
  have hr : ∀ r : Fin 24, standby.record r = none := by
    intro r
    simp [standby, State.afterReset, State.record]
  refine ⟨⟨⟨?_, ?_, ?_, ?_, by decide, by decide⟩, ?_, ?_, ?_⟩, _, rfl⟩
  · intro _ k
    rw [hs]
    rfl
  · intro k j _ h
    rw [hs] at h
    exact absurd rfl h
  · intro k h
    rw [hs] at h
    exact absurd rfl h
  · intro k h
    rw [hs] at h
    exact absurd rfl h
  · intro k
    rw [hs, ht]
    exact ⟨rfl, rfl, List.nodup_nil⟩
  · intro k r h
    rw [hs] at h
    exact nomatch h
  · intro r x h
    rw [hr] at h
    exact nomatch h

end Sys2Proof.Tests
end

section
/-! The CRC of link frames (R3): feeding a register its own bits, and only those, empties it. -/

namespace Sys2Proof.LineFormats

open Sys2Proof.Machine

/-- The bits of a byte in the order they enter the CRC register (R3). -/
def entering (b : Byte) : List Bool := [7, 6, 5, 4, 3, 2, 1, 0].map (fun i => b.getLsbD i)

theorem crcByte_eq_foldl (reg : Word16) (b : Byte) : crcByte reg b = (entering b).foldl crcBit reg := by
  simp only [crcByte, entering, List.foldl_map]

theorem crcBit_of_leaving (reg : Word16) : crcBit reg reg.msb = reg <<< 1 := by
  simp [crcBit]

/-- A register shifted by less than its width is empty only when its lowest bit is 0, so the generator, whose lowest bit
is 1, was not added: the bit that entered is the one that left. -/
theorem crcBit_shiftLeft_eq_zero (reg : Word16) (b : Bool) (m : Nat) (hm : m < 16) :
    crcBit reg b <<< m = 0 ↔ b = reg.msb ∧ reg <<< (m + 1) = 0 := by
  by_cases h : b = reg.msb
  · simp [h, crcBit_of_leaving, ← BitVec.shiftLeft_add, Nat.add_comm]
  · have hbit : (crcBit reg b <<< m).getLsbD m = true := by simp [crcBit, Ne.symm h, hm]
    have hne : crcBit reg b <<< m ≠ 0 := fun e => by rw [e] at hbit; simp at hbit
    simp only [hne, h, false_and]

/-- Bits fed into a register leave nothing above the lowest `m` places exactly when they are the register's highest bits
and what the register holds below them is within those places. -/
theorem foldl_crcBit_eq_zero (bits : List Bool) (reg : Word16) (m : Nat) (hm : m + bits.length ≤ 16) :
    bits.foldl crcBit reg <<< m = 0 ↔
      bits = (List.range bits.length).map reg.getMsbD ∧ reg <<< (m + bits.length) = 0 := by
  induction bits generalizing reg with
  | nil => simp
  | cons b rest ih =>
    simp only [List.length_cons] at hm ⊢
    rw [List.foldl_cons, ih _ (by omega), crcBit_shiftLeft_eq_zero _ _ _ (by omega), List.range_succ_eq_map]
    have hmsb : reg.getMsbD 0 = reg.msb := rfl
    have hshift : (reg <<< 1).getMsbD = fun i => reg.getMsbD (i + 1) := by
      funext i; simp [BitVec.getMsbD_shiftLeft]
    by_cases h : b = reg.msb
    · subst h
      simp [crcBit_of_leaving, hmsb, hshift, Function.comp_def, Nat.add_assoc]
    · simp [h, hmsb]

theorem entering_append (hi lo : Byte) : entering hi ++ entering lo = (List.range 16).map (hi ++ lo).getMsbD := by
  have hbits : (hi ++ lo).getMsbD = fun i => if 8 ≤ i then lo.getMsbD (i - 8) else hi.getMsbD i :=
    funext fun _ => BitVec.getMsbD_append
  rw [hbits]
  simp [entering, List.range_succ, BitVec.getMsbD]

theorem map_getMsbD_inj (x y : Word16) : (List.range 16).map x.getMsbD = (List.range 16).map y.getMsbD ↔ x = y := by
  refine ⟨fun h => BitVec.eq_of_getMsbD_eq fun i hi => ?_, fun h => by rw [h]⟩
  exact List.map_inj_left.mp h i (List.mem_range.mpr hi)

theorem toNat_append_bytes (hi lo : Byte) : (hi ++ lo).toNat = hi.toNat * 256 + lo.toNat := by
  rw [BitVec.toNat_append, ← Nat.shiftLeft_add_eq_or_of_lt (by omega), Nat.shiftLeft_eq]

theorem append_eq_iff_bytes16 (hi lo : Byte) (w : Word16) : hi ++ lo = w ↔ [hi, lo] = bytes16 w.toNat := by
  simp only [bytes16, byteOf, List.cons.injEq, and_true, BitVec.toNat_eq, toNat_append_bytes, BitVec.toNat_ofNat]
  omega

/-- A message and its two CRC bytes leave the register empty, and no other two bytes do (R3). -/
theorem crc_append_eq_zero (bytes : List Byte) (hi lo : Byte) :
    crc (bytes ++ [hi, lo]) = 0 ↔ [hi, lo] = crcBytes bytes := by
  have hcrc : crc (bytes ++ [hi, lo]) = (entering hi ++ entering lo).foldl crcBit (crc bytes) := by
    simp [crc, crcByte_eq_foldl]
  have key := foldl_crcBit_eq_zero (entering hi ++ entering lo) (crc bytes) 0 (by simp [entering])
  have hlen : (entering hi ++ entering lo).length = 16 := rfl
  have hout : crc bytes <<< 16 = 0 := by simp
  rw [hlen, Nat.zero_add, BitVec.shiftLeft_zero] at key
  rw [hcrc, key, and_iff_left hout, entering_append, map_getMsbD_inj, append_eq_iff_bytes16, crcBytes]

theorem crc_referenceValue : crc [0x31, 0x32, 0x33, 0x34, 0x35, 0x36, 0x37, 0x38, 0x39] = 0x29B1 := by
  decide +kernel

end Sys2Proof.LineFormats
end

section
/-! A receiver run over the characters of a frame (R2, R4, R5), part by part: header, length byte, body, CRC. -/

namespace Sys2Proof.LineFormats

open Sys2Proof.Machine Sys2Proof.Safety

/-! ### Runs of any receiver -/

theorem runChars_cons_of_none {ρ α γ : Type} {char : ρ → γ → ρ × Option α} {r r' : ρ} {c : γ} (rest : List γ)
    (h : char r c = (r', none)) : runChars char r (c :: rest) = runChars char r' rest := by
  simp [runChars, h]

theorem runChars_singleton_of_some {ρ α γ : Type} {char : ρ → γ → ρ × Option α} {r r' : ρ} {c : γ} {x : α}
    (h : char r c = (r', some x)) : runChars char r [c] = .ended r' x := by
  simp [runChars, h]

/-! ### Characters with good and bad stop bits -/

/-- Some character has a bad stop bit. -/
def anyBad (chars : List SerialChar) : Bool := chars.any (fun c => !c.stopGood)

@[simp] theorem anyBad_nil : anyBad [] = false := rfl
@[simp] theorem anyBad_cons (c : SerialChar) (cs : List SerialChar) : anyBad (c :: cs) = (!c.stopGood || anyBad cs) := rfl
@[simp] theorem anyBad_append (cs ds : List SerialChar) : anyBad (cs ++ ds) = (anyBad cs || anyBad ds) :=
  List.any_append

theorem anyBad_of_mem {chars : List SerialChar} (h : ∃ c ∈ chars, c.stopGood = false) : anyBad chars = true := by
  simpa [anyBad] using h

@[simp] theorem anyBad_goodChars (bytes : List Byte) : anyBad (goodChars bytes) = false := by
  simp [anyBad, goodChars]

@[simp] theorem data_goodChars (bytes : List Byte) : (goodChars bytes).map (fun c => c.data) = bytes := by
  simp [goodChars, Function.comp_def]

theorem goodChars_cons (b : Byte) (bytes : List Byte) :
    goodChars (b :: bytes) = { data := b, stopGood := true } :: goodChars bytes := rfl

/-! ### The parts of a frame -/

/-- A start byte with a good stop bit begins a frame in HUNT (R4). -/
theorem runChars_startByte (chars : List SerialChar) :
    runChars Receiver.char .hunt ({ data := 0x7E, stopGood := true } :: chars) =
      runChars Receiver.char (.header [] false) chars := by
  simp [runChars, Receiver.char]

/-- Header bytes before the length byte are stored. -/
theorem runChars_header (chars rest : List SerialChar) (hdr : List Byte) (damaged : Bool)
    (h : hdr.length + chars.length < 6) :
    runChars Receiver.char (.header hdr damaged) (chars ++ rest) =
      runChars Receiver.char (.header (hdr ++ chars.map (fun c => c.data)) (damaged || anyBad chars)) rest := by
  induction chars generalizing hdr damaged with
  | nil => simp
  | cons c cs ih =>
    simp only [List.length_cons] at h
    have hc : Receiver.char (.header hdr damaged) c = (.header (hdr ++ [c.data]) (damaged || !c.stopGood), none) := by
      simp [Receiver.char]; omega
    rw [List.cons_append, runChars_cons_of_none _ hc, ih _ _ (by simp; omega)]
    simp [Bool.or_assoc]

/-- Body bytes before the last are stored. -/
theorem runChars_body (chars rest : List SerialChar) (hdr got : List Byte) (damaged : Bool)
    (h : got.length + chars.length < byteAt hdr 5) :
    runChars Receiver.char (.body hdr got damaged) (chars ++ rest) =
      runChars Receiver.char (.body hdr (got ++ chars.map (fun c => c.data)) (damaged || anyBad chars)) rest := by
  induction chars generalizing got damaged with
  | nil => simp
  | cons c cs ih =>
    simp only [List.length_cons] at h
    have hc : Receiver.char (.body hdr got damaged) c = (.body hdr (got ++ [c.data]) (damaged || !c.stopGood), none) := by
      simp [Receiver.char]; omega
    rw [List.cons_append, runChars_cons_of_none _ hc, ih _ _ (by simp; omega)]
    simp [Bool.or_assoc]

/-- The length byte and as many body bytes as it says bring the receiver to the CRC, straight from the header when the
body is empty. -/
theorem runChars_lengthAndBody (len : SerialChar) (chars rest : List SerialChar) (hdr : List Byte) (damaged : Bool)
    (hhdr : hdr.length = 5) (hlen : len.data.toNat = chars.length) (hmax : chars.length ≤ 56) :
    runChars Receiver.char (.header hdr damaged) (len :: chars ++ rest) =
      runChars Receiver.char (.crc (hdr ++ [len.data]) (chars.map (fun c => c.data)) [] (damaged || anyBad (len :: chars)))
        rest := by
  rcases List.eq_nil_or_concat chars with rfl | ⟨init, last, rfl⟩
  · have hc : Receiver.char (.header hdr damaged) len = (.crc (hdr ++ [len.data]) [] [] (damaged || !len.stopGood), none) := by
      simp_all [Receiver.char]
    simp [runChars_cons_of_none _ hc]
  · simp only [List.concat_eq_append, List.length_append, List.length_singleton] at hlen hmax
    have hbyte : byteAt (hdr ++ [len.data]) 5 = init.length + 1 := by
      simp [byteAt, ← hhdr, hlen]
    have hc : Receiver.char (.header hdr damaged) len =
        (.body (hdr ++ [len.data]) [] (damaged || !len.stopGood), none) := by
      simp [Receiver.char, hhdr, hlen, Config.maxBody, hmax]
    have hlast : Receiver.char (.body (hdr ++ [len.data]) (init.map (fun c => c.data))
        (damaged || !len.stopGood || anyBad init)) last =
        (.crc (hdr ++ [len.data]) (init.map (fun c => c.data) ++ [last.data]) []
          (damaged || !len.stopGood || anyBad init || !last.stopGood), none) := by
      simp [Receiver.char, hbyte]
    rw [List.cons_append, runChars_cons_of_none _ hc, List.concat_eq_append, List.append_assoc,
      runChars_body _ _ _ _ _ (by simp [hbyte]), List.nil_append, List.singleton_append,
      runChars_cons_of_none _ hlast]
    simp [Bool.or_assoc]

/-- The two CRC characters end the frame: valid when no stop bit was bad and they are the CRC bytes, else a CRC error
(R4, R5). -/
theorem runChars_crc (hi lo : SerialChar) (hdr got : List Byte) (damaged : Bool) :
    runChars Receiver.char (.crc hdr got [] damaged) [hi, lo] =
      .ended .hunt (if (damaged || anyBad [hi, lo]) = false ∧ [hi.data, lo.data] = crcBytes (hdr ++ got)
        then .valid (frameOf hdr got) else .crcError) := by
  have hhi : Receiver.char (.crc hdr got [] damaged) hi = (.crc hdr got [hi.data] (damaged || !hi.stopGood), none) := by
    simp [Receiver.char]
  rw [runChars_cons_of_none _ hhi]
  apply runChars_singleton_of_some
  simp only [Receiver.char, anyBad_cons, anyBad_nil]
  simp only [List.cons_append, List.nil_append, List.length_cons, List.length_nil, Nat.reduceAdd, Nat.lt_irrefl,
    ↓reduceIte, Bool.or_false, Bool.or_assoc]
  split <;> rfl

/-- The characters of a frame's header and body and of any two check bytes end it: valid and as sent when no stop bit was
bad and the check bytes are its CRC, else a CRC error (R2, R4, R5). -/
theorem runChars_frame (f : LinkFrame) (check : List Byte) (chars : List SerialChar) (hbody : f.body.length ≤ 56)
    (hcheck : check.length = 2) (hchars : chars.map (fun c => c.data) = f.content ++ check) :
    runChars Receiver.char (.header [] false) chars =
      .ended .hunt (if anyBad chars = false ∧ check = crcBytes f.content then .valid f else .crcError) := by
  have hparts : f.content ++ check =
      [f.dest, f.source, f.kind, f.hop, f.tag] ++ (byteOf f.body.length :: f.body ++ check) := by
    simp [LinkFrame.content]
  rw [hparts, List.map_eq_append_iff] at hchars
  obtain ⟨header, more, rfl, hheader, hmore⟩ := hchars
  obtain ⟨lenBody, crcChars, rfl, hlenBody, hcrcChars⟩ := List.map_eq_append_iff.mp hmore
  obtain ⟨len, body, rfl, hlen, hbodyData⟩ := List.map_eq_cons_iff.mp hlenBody
  obtain ⟨k1, k2, rfl⟩ := List.length_eq_two.mp (show crcChars.length = 2 by simpa [← hcrcChars] using hcheck)
  have hheaderLen : header.length = 5 := by simpa using congrArg List.length hheader
  have hbodyLen : body.length = f.body.length := by simpa using congrArg List.length hbodyData
  have hlenByte : len.data.toNat = body.length := by
    rw [hlen, hbodyLen, BitVec.toNat_ofNat]; omega
  rw [runChars_header _ _ _ _ (by simp [hheaderLen]),
    runChars_lengthAndBody _ _ _ _ _ (by simp [hheaderLen]) hlenByte (by omega), runChars_crc]
  have hcontent : [] ++ header.map (fun c => c.data) ++ [len.data] ++ body.map (fun c => c.data) = f.content := by
    simp [hheader, hlen, hbodyData, LinkFrame.content]
  have hframe : frameOf ([] ++ header.map (fun c => c.data) ++ [len.data]) (body.map (fun c => c.data)) = f := by
    rw [hheader, hbodyData]; rfl
  have hcheckData : [k1.data, k2.data] = check := by simpa using hcrcChars
  rw [hcontent, hframe, hcheckData]
  simp only [anyBad_append, Bool.false_or, Bool.or_assoc]

/-- A length byte above 56 ends the frame as a length error and leaves the receiver in QUIET (R4, R5). -/
theorem runChars_longLength (chars : List SerialChar) (last : SerialChar) (hchars : chars.length = 5)
    (hlast : 57 ≤ last.data.toNat) :
    runChars Receiver.char (.header [] false) (chars ++ [last]) = .ended .quiet .lengthError := by
  rw [runChars_header _ _ _ _ (by simp [hchars])]
  apply runChars_singleton_of_some
  have hlong : ¬ last.data.toNat ≤ 56 := by omega
  have hsome : last.data.toNat ≠ 0 := by omega
  simp [Receiver.char, Config.maxBody, hchars, hlong, hsome]

/-! ### The obligation -/

/-- Settles O8: the CRC by the register's bits, each frame by its run through the receiver. -/
theorem framesAndTheirCrc : Obligations.FramesAndTheirCrc := by
  refine ⟨⟨rfl, crc_referenceValue, fun _ => rfl, crc_append_eq_zero⟩, ?_, ?_, ?_, ?_⟩
  case refine_1 =>
    intro f hf
    rw [goodChars_cons, runChars_startByte, runChars_frame f (crcBytes f.content) _ hf rfl (data_goodChars f.wire)]
    simp
  case refine_2 =>
    intro f chars hf hdata hbad
    rw [runChars_startByte, runChars_frame f (crcBytes f.content) chars hf rfl hdata, anyBad_of_mem hbad]
    simp
  case refine_3 =>
    intro f check hf hlen hne
    rw [List.cons_append, goodChars_cons, runChars_startByte, runChars_frame f check _ hf hlen (data_goodChars _)]
    simp [hne]
  case refine_4 =>
    intro chars last hlen hlast
    rw [List.cons_append, runChars_startByte, runChars_longLength chars last hlen hlast]

end Sys2Proof.LineFormats
end

section
/-! Beacon reports and controller messages read from their characters (R9 to R16, R44). -/

namespace Sys2Proof.LineFormats

open Sys2Proof.Machine Sys2Proof.Safety

/-! ### Numbers in bytes -/

theorem word16At_bytes16 (n : Nat) (h : n < 65536) (rest : List Byte) : word16At (bytes16 n ++ rest) 0 = n := by
  simp [word16At, byteAt, bytes16]
  omega

theorem readLateness_toNat (b : Byte) : readLateness b.toNat = if b = 0x80 then none else some b.toInt := by
  have hb : b.toNat = 128 ↔ b = 0x80 := by rw [BitVec.toNat_eq]; rfl
  simp only [readLateness, hb, BitVec.ofNat_toNat, BitVec.setWidth_eq]

/-- The parts of a composed route word read back (R10). -/
theorem routeWord_fields (route : Nat) (direction : Bool) :
    routeNumber (routeWord route direction) = route ∧ routeDirection (routeWord route direction) = direction ∧
      routeSpare (routeWord route direction) = 0 := by
  cases direction <;> simp [routeNumber, routeDirection, routeSpare, routeWord, bit] <;> omega

theorem routeWord_lt (route : Nat) (direction : Bool) (h : route ≤ 9999) : routeWord route direction < 65536 := by
  cases direction <;> simp [routeWord, bit] <;> omega

/-! ### Reports (R12, R13, R44) -/

/-- A report kind's codes are 1 to 3 (R12). -/
theorem reportKindOf_isSome (n : Nat) : (reportKindOf n).isSome = true ↔ 1 ≤ n ∧ n ≤ 3 := by
  match n with
  | 0 => decide
  | 1 => decide
  | 2 => decide
  | 3 => decide
  | n + 4 => simp [reportKindOf]

/-- The tests of R13 on the characters of a report, its kind apart. -/
def DataValid (chars : List Byte) : Prop :=
  byteAt chars 0 = 0xC3 ∧ word16At chars 2 ≠ 0 ∧ 1 ≤ routeNumber (word16At chars 4) ∧
    routeNumber (word16At chars 4) ≤ 9999 ∧ routeSpare (word16At chars 4) = 0 ∧ byteAt chars 7 / 2 = 0 ∧
    sumBytes (chars.drop 1) % 256 = 0

/-- The fields of R12 in the characters of a report of a kind. -/
def reportOf (l : Fin 8) (suspect : Bool) (kind : ReportKind) (chars : List Byte) : Report :=
  { line := l, kind := kind, vehicle := word16At chars 2, route := routeNumber (word16At chars 4)
    direction := routeDirection (word16At chars 4), lateness := readLateness (byteAt chars 6)
    nearside := byteAt chars 7 % 2 = 1, suspect := suspect }

/-- A report is read exactly when its kind is known and its data are valid, and its fields are then those of R12. -/
theorem readReport_eq_some (l : Fin 8) (suspect : Bool) (chars : List Byte) (rep : Report) :
    readReport l suspect chars = some rep ↔
      DataValid chars ∧ ∃ kind, reportKindOf (byteAt chars 1) = some kind ∧ rep = reportOf l suspect kind chars := by
  unfold readReport
  cases hkind : reportKindOf (byteAt chars 1) with
  | none => simp
  | some kind =>
    simp only [Option.some.injEq, exists_eq_left']
    by_cases h : DataValid chars
    · simp only [h, true_and]
      unfold DataValid at h
      rw [if_pos h, Option.some.injEq]
      exact eq_comm
    · simp only [h, false_and, iff_false]
      unfold DataValid at h
      rw [if_neg h]
      exact nofun

theorem readReport_isSome (l : Fin 8) (suspect : Bool) (chars : List Byte) :
    (readReport l suspect chars).isSome = true ↔ DataValid chars ∧ 1 ≤ byteAt chars 1 ∧ byteAt chars 1 ≤ 3 := by
  rw [← reportKindOf_isSome, Option.isSome_iff_exists, Option.isSome_iff_exists]
  simp only [readReport_eq_some]
  constructor
  · rintro ⟨_, hvalid, kind, hkind, _⟩
    exact ⟨hvalid, kind, hkind⟩
  · rintro ⟨hvalid, kind, hkind⟩
    exact ⟨_, hvalid, kind, hkind, rfl⟩

/-- The mark a report is read with is the mark it carries. -/
theorem suspect_of_readReport {l : Fin 8} {suspect : Bool} {chars : List Byte} {rep : Report}
    (h : readReport l suspect chars = some rep) : rep.suspect = suspect := by
  obtain ⟨_, kind, _, rfl⟩ := (readReport_eq_some ..).mp h
  rfl

theorem judge_framing (l : Fin 8) (raw : RawReport) (h : raw.framingMark = true) : judge l raw = .framing := by
  simp [judge, h]

theorem judge_checksum (l : Fin 8) (raw : RawReport) (h : raw.framingMark = false)
    (hread : readReport l raw.parityMark raw.chars = none) : judge l raw = .checksum := by
  simp [judge, h, hread]

theorem judge_valid (l : Fin 8) (raw : RawReport) (rep : Report) (h : raw.framingMark = false)
    (hread : readReport l raw.parityMark raw.chars = some rep) :
    judge l raw = if raw.parityMark then .parity rep else .clean rep := by
  simp [judge, h, hread]

/-- A report laid out by its characters, sync and kind first (R12). -/
def reportChars (kind vehicle route : Nat) (direction : Bool) (late flags sum : Byte) : List Byte :=
  [0xC3, byteOf kind] ++ bytes16 vehicle ++ bytes16 (routeWord route direction) ++ [late, flags, sum]

section Layout

variable (kind vehicle route : Nat) (direction : Bool) (late flags sum : Byte)

theorem byteAt_reportChars_sync : byteAt (reportChars kind vehicle route direction late flags sum) 0 = 0xC3 := rfl

theorem byteAt_reportChars_kind (h : kind ≤ 3) :
    byteAt (reportChars kind vehicle route direction late flags sum) 1 = kind := by
  change kind % 256 = kind
  omega

theorem word16At_reportChars_vehicle (h : vehicle ≤ 65535) :
    word16At (reportChars kind vehicle route direction late flags sum) 2 = vehicle :=
  word16At_bytes16 vehicle (by omega) []

theorem word16At_reportChars_route (h : route ≤ 9999) :
    word16At (reportChars kind vehicle route direction late flags sum) 4 = routeWord route direction :=
  word16At_bytes16 _ (routeWord_lt route direction h) []

theorem byteAt_reportChars_late : byteAt (reportChars kind vehicle route direction late flags sum) 6 = late.toNat := rfl

theorem byteAt_reportChars_flags : byteAt (reportChars kind vehicle route direction late flags sum) 7 = flags.toNat := rfl

/-- A laid-out report with its numbers in range is valid exactly when its checksum is (R13). -/
theorem dataValid_reportChars (hvehicle : 1 ≤ vehicle ∧ vehicle ≤ 65535) (hroute : 1 ≤ route ∧ route ≤ 9999)
    (hflags : flags.toNat ≤ 1) :
    DataValid (reportChars kind vehicle route direction late flags sum) ↔
      sumBytes ((reportChars kind vehicle route direction late flags sum).drop 1) % 256 = 0 := by
  obtain ⟨hnumber, -, hspare⟩ := routeWord_fields route direction
  unfold DataValid
  rw [word16At_reportChars_vehicle _ _ _ _ _ _ _ hvehicle.2, word16At_reportChars_route _ _ _ _ _ _ _ hroute.2,
    hnumber, hspare, byteAt_reportChars_sync, byteAt_reportChars_flags]
  constructor
  · rintro ⟨-, -, -, -, -, -, hsum⟩
    exact hsum
  · intro hsum
    exact ⟨rfl, by omega, hroute.1, hroute.2, rfl, by omega, hsum⟩

/-- The fields of a laid-out report are those it was laid out with (R9, R10, R12). -/
theorem reportOf_reportChars (l : Fin 8) (suspect : Bool) (k : ReportKind) (hvehicle : vehicle ≤ 65535)
    (hroute : route ≤ 9999) (hflags : flags.toNat ≤ 1) :
    reportOf l suspect k (reportChars kind vehicle route direction late flags sum) =
      { line := l, kind := k, vehicle := vehicle, route := route, direction := direction
        lateness := if late = 0x80 then none else some late.toInt
        nearside := decide (flags.toNat = 1), suspect := suspect } := by
  obtain ⟨hnumber, hdirection, -⟩ := routeWord_fields route direction
  unfold reportOf
  rw [word16At_reportChars_vehicle _ _ _ _ _ _ _ hvehicle, word16At_reportChars_route _ _ _ _ _ _ _ hroute,
    hnumber, hdirection, byteAt_reportChars_late, byteAt_reportChars_flags, readLateness_toNat,
    Nat.mod_eq_of_lt (show flags.toNat < 2 by omega)]

end Layout

/-- R13's tests on nine characters, told by their bits: the route number is the high 14 bits of its word and the spare its
lowest bit. -/
theorem dataValid_nine (c0 c1 c2 c3 c4 c5 c6 c7 c8 : Byte) :
    DataValid [c0, c1, c2, c3, c4, c5, c6, c7, c8] ↔
      c0 = 0xC3 ∧ (c2 ++ c3).toNat ≠ 0 ∧ 1 ≤ ((c4 ++ c5).extractLsb' 2 14).toNat ∧
      ((c4 ++ c5).extractLsb' 2 14).toNat ≤ 9999 ∧ c5.getLsbD 0 = false ∧ c7.extractLsb' 1 7 = 0 ∧
      sumBytes [c1, c2, c3, c4, c5, c6, c7, c8] % 256 = 0 := by
  have hsync : c0.toNat = 0xC3 ↔ c0 = 0xC3 := by rw [BitVec.toNat_eq]; rfl
  have hnumber : ((c4 ++ c5).extractLsb' 2 14).toNat = (c4.toNat * 256 + c5.toNat) / 4 := by
    rw [BitVec.extractLsb'_toNat, toNat_append_bytes, Nat.shiftRight_eq_div_pow]
    omega
  have hspare : c5.getLsbD 0 = false ↔ (c4.toNat * 256 + c5.toNat) % 2 = 0 := by
    rw [BitVec.getLsbD, Nat.testBit_zero, decide_eq_false_iff_not]
    omega
  have hflags : c7.extractLsb' 1 7 = 0 ↔ c7.toNat / 2 = 0 := by
    rw [BitVec.toNat_eq, BitVec.extractLsb'_toNat, Nat.shiftRight_eq_div_pow]
    change _ = 0 ↔ _
    omega
  rw [hnumber, hspare, hflags, toNat_append_bytes, ← hsync]
  rfl

/-- Settles O11: a report is read by its kind and R13's tests, and judged by its marks. -/
theorem reportReadAndJudged : Obligations.ReportReadAndJudged := by
  refine ⟨?_, ?_, ?_⟩
  case refine_1 =>
    intro l suspect kind vehicle route direction late flags sum hk1 hk3 hv1 hv2 hr1 hr2 hflags
    have hvalid := dataValid_reportChars kind vehicle route direction late flags sum ⟨hv1, hv2⟩ ⟨hr1, hr2⟩ hflags
    constructor
    · intro hsum
      obtain ⟨k, hk⟩ := Option.isSome_iff_exists.mp ((reportKindOf_isSome kind).mpr ⟨hk1, hk3⟩)
      have hread := (readReport_eq_some l suspect _ _).mpr
        ⟨hvalid.mpr hsum, k, by rw [byteAt_reportChars_kind _ _ _ _ _ _ _ hk3, hk], rfl⟩
      rw [reportOf_reportChars _ _ _ _ _ _ _ l suspect k hv2 hr2 hflags] at hread
      exact ⟨_, hread, hk, rfl, rfl, rfl, rfl, rfl, rfl, rfl⟩
    · intro hsum
      refine Option.not_isSome_iff_eq_none.mp fun hsome => hsum (hvalid.mp ?_)
      exact ((readReport_isSome ..).mp hsome).1
  case refine_2 =>
    intro l suspect c0 c1 c2 c3 c4 c5 c6 c7 c8
    have hkind : (c1 = 0x01 ∨ c1 = 0x02 ∨ c1 = 0x03) ↔ 1 ≤ c1.toNat ∧ c1.toNat ≤ 3 := by
      bv_omega
    rw [readReport_isSome, dataValid_nine, hkind, show byteAt [c0, c1, c2, c3, c4, c5, c6, c7, c8] 1 = c1.toNat from rfl]
    tauto
  case refine_3 =>
    intro l raw
    refine ⟨judge_framing l raw, judge_checksum l raw, fun rep hframing hread hparity => ?_,
      fun rep hframing hread hparity => ?_⟩
    · exact ⟨by rw [judge_valid l raw rep hframing hread, if_pos hparity], by rw [suspect_of_readReport hread, hparity]⟩
    · exact ⟨by simp [judge_valid l raw rep hframing hread, hparity], by rw [suspect_of_readReport hread, hparity]⟩

end Sys2Proof.LineFormats
end

section
/-! Controller messages composed and received (R14 to R16). -/

namespace Sys2Proof.LineFormats

open Sys2Proof.Machine Sys2Proof.Safety

/-! ### The bytes of a composed message (R14, R16) -/

theorem byteOf_toNat (n : Nat) : (byteOf n).toNat = n % 256 := BitVec.toNat_ofNat ..

theorem sumBytes_append (xs ys : List Byte) : sumBytes (xs ++ ys) = sumBytes xs + sumBytes ys := by
  simp [sumBytes]

/-- Bytes 1 to 6 of a composed message and its check byte sum to 0 modulo 256 (R14). -/
theorem sumBytes_with_check (xs : List Byte) : sumBytes (xs ++ [byteOf (256 - sumBytes xs % 256)]) % 256 = 0 := by
  rw [sumBytes_append]
  change (sumBytes xs + ((byteOf (256 - sumBytes xs % 256)).toNat + 0)) % 256 = 0
  rw [byteOf_toNat]
  omega

theorem kindByte_of_message (m : CtrlMessage) :
    byteAt m.bytes 1 = match m.kind with | .call => 1 | .cancel => 2 | .release => 3 := by
  change (byteOf m.kind.value).toNat = _
  cases m.kind <;> rfl

theorem codeByte_of_message (m : CtrlMessage) :
    byteAt m.bytes 4 = match m.code with | none => 0 | some .extend => 1 | some .early => 2 | some .jump => 3 := by
  change (byteOf ((m.code.map ServiceKind.code).getD 0)).toNat = _
  match m.code with
  | none => rfl
  | some .extend => rfl
  | some .early => rfl
  | some .jump => rfl

theorem durationWord_of_message (m : CtrlMessage) : word16At m.bytes 5 = m.duration % 65536 := by
  change (byteOf (m.duration / 256)).toNat * 256 + (byteOf m.duration).toNat = _
  rw [byteOf_toNat, byteOf_toNat]
  omega

/-! ### The message receiver (R15) -/

/-- The characters behind the sync byte, up to the eighth, are stored and end the message; a bad stop bit among them
damages it. -/
theorem runChars_message (chars : List SerialChar) (bytes : List Byte) (damaged : Bool) (hsome : chars ≠ [])
    (hlen : bytes.length + chars.length = 8) :
    runChars MsgReceiver.char (.collect bytes damaged) chars =
      .ended .hunt (readMessage (bytes ++ chars.map (fun c => c.data)) (damaged || anyBad chars)) := by
  induction chars generalizing bytes damaged with
  | nil => exact absurd rfl hsome
  | cons c cs ih =>
    simp only [List.length_cons] at hlen
    cases cs with
    | nil =>
      apply runChars_singleton_of_some
      simp only [List.length_nil] at hlen
      simp [MsgReceiver.char, show bytes.length = 7 by omega]
    | cons d ds =>
      simp only [List.length_cons] at hlen
      have hc : MsgReceiver.char (.collect bytes damaged) c =
          (.collect (bytes ++ [c.data]) (damaged || !c.stopGood), none) := by
        simp [MsgReceiver.char]; omega
      rw [runChars_cons_of_none _ hc, ih _ _ nofun (by simp; omega)]
      simp [Bool.or_assoc]

/-- A sync byte with a good stop bit and seven characters behind it are one message to a receiver in HUNT. -/
theorem messageFrom_hunt (s : State) (chars : List SerialChar) (hhunt : s.msgReceiver = .hunt) (hlen : chars.length = 7) :
    s.messageFrom ({ data := 0xA5, stopGood := true } :: chars) =
      some (readMessage (0xA5 :: chars.map (fun c => c.data)) (anyBad chars)) := by
  have hsync : MsgReceiver.char .hunt { data := 0xA5, stopGood := true } = (.collect [0xA5] false, none) := rfl
  have hsome : chars ≠ [] := by rintro rfl; simp at hlen
  unfold State.messageFrom
  rw [hhunt, runChars_cons_of_none _ hsync, runChars_message _ _ _ hsome (by simp [hlen])]
  rfl

theorem readMessage_damaged (bytes : List Byte) : readMessage bytes true = .invalid := by
  simp [readMessage]

theorem readMessage_badSum (bytes : List Byte) (damaged : Bool) (h : sumBytes (bytes.drop 1) % 256 ≠ 0) :
    readMessage bytes damaged = .invalid := by
  simp only [readMessage, h, not_false_eq_true, ne_eq, or_true, if_true]

section GoodSum

variable (bytes : List Byte) (h : sumBytes (bytes.drop 1) % 256 = 0)

include h

theorem readMessage_accept (hkind : byteAt bytes 1 = 0x11) : readMessage bytes false = .accept (byteAt bytes 2) := by
  simp only [readMessage, h, hkind]
  rfl

theorem readMessage_deny (hkind : byteAt bytes 1 = 0x12) :
    readMessage bytes false = .deny (byteAt bytes 2) (if byteAt bytes 4 = 2 then .never else .notNow) := by
  simp only [readMessage, h, hkind]
  rfl

theorem readMessage_start (hkind : byteAt bytes 1 = 0x13) : readMessage bytes false = .start (byteAt bytes 2) := by
  simp only [readMessage, h, hkind]
  rfl

theorem readMessage_end (hkind : byteAt bytes 1 = 0x14) :
    readMessage bytes false = .endService (byteAt bytes 2)
      (if byteAt bytes 4 = 1 then .normal else if byteAt bytes 4 = 3 then .cancelled else .overridden) := by
  simp only [readMessage, h, hkind]
  rfl

theorem readMessage_phases (hkind : byteAt bytes 1 = 0x15) :
    readMessage bytes false = .phases (BitVec.ofNat 16 (word16At bytes 5)) := by
  simp only [readMessage, h, hkind]
  rfl

theorem readMessage_otherKind (hkind : byteAt bytes 1 < 0x11 ∨ 0x15 < byteAt bytes 1) :
    readMessage bytes false = .invalid := by
  simp only [readMessage, h]
  split
  · rfl
  · split
    case h_6 => rfl
    all_goals omega

end GoodSum

/-- Settles O12: a composed message by its bytes, a received one by the run through the receiver and its reading. -/
theorem controllerMessageBytes : Obligations.ControllerMessageBytes := by
  refine ⟨?_, ?_, ?_⟩
  case refine_1 =>
    intro m
    exact ⟨rfl, rfl, sumBytes_with_check m.fields, kindByte_of_message m, byteOf_toNat m.call, byteOf_toNat m.group,
      codeByte_of_message m, durationWord_of_message m⟩
  case refine_2 =>
    intro s b1 b2 b3 b4 b5 b6 b7 hhunt m sum
    have hm : m = some (readMessage [0xA5, b1, b2, b3, b4, b5, b6, b7] false) :=
      messageFrom_hunt s (goodChars [b1, b2, b3, b4, b5, b6, b7]) hhunt rfl
    have hgreen : BitVec.ofNat 16 (b5.toNat * 256 + b6.toNat) = b5 ++ b6 := by
      rw [← toNat_append_bytes]; exact BitVec.ofNat_toNat ..
    have hsum : sum = sumBytes (([0xA5, b1, b2, b3, b4, b5, b6, b7] : List Byte).drop 1) % 256 := rfl
    rw [hm, hsum]
    refine ⟨fun h => ?_, fun h hk => ?_, fun h hk => ?_, fun h hk => ?_, fun h hk => ?_, fun h hk => ?_, fun h hk => ?_⟩
    · rw [readMessage_badSum _ _ h]
    · rw [readMessage_accept _ h (congrArg BitVec.toNat hk)]; rfl
    · rw [readMessage_deny _ h (congrArg BitVec.toNat hk)]
      simp [byteAt, BitVec.toNat_eq]
    · rw [readMessage_start _ h (congrArg BitVec.toNat hk)]; rfl
    · rw [readMessage_end _ h (congrArg BitVec.toNat hk)]
      simp [byteAt, BitVec.toNat_eq]
    · rw [readMessage_phases _ h (congrArg BitVec.toNat hk), ← hgreen]; rfl
    · rw [readMessage_otherKind _ h hk]
  case refine_3 =>
    intro s chars hhunt hlen hbad
    rw [messageFrom_hunt s chars hhunt hlen, anyBad_of_mem hbad, readMessage_damaged]

end Sys2Proof.LineFormats
end

section
/-! The receive and the transmit side of a corridor port (R4, R5, R18, R28 to R30). -/

namespace Sys2Proof.LineFormats

open Sys2Proof.Machine Sys2Proof.Safety Sys2Proof.Laws

/-! ### Starts and idle lines (R4, R5) -/

theorem execFrameStart_of_going (s : State) (p : Port) (more : List SerialChar) (r : Receiver)
    (hhunt : (s.port p).receiver = .hunt) (hrun : runChars Receiver.char (.header [] false) more = .going r) :
    execFrameStart p more s = .next (s.setPort p { s.port p with receiver := r }).endEvent := by
  unfold execFrameStart
  rw [if_pos hhunt, runChars_startByte, hrun]
  rfl

theorem idle_of_inProgress (r : Receiver) (h : r.inProgress = true) : r.idle = (.hunt, some .crcError) := by
  simp [Receiver.idle, h]

theorem idle_of_not_inProgress (r : Receiver) (h : r.inProgress = false) : r.idle = (.hunt, none) := by
  simp [Receiver.idle, h]

/-- Settles O13: a start stores what its characters leave, an idle line leaves HUNT. -/
theorem corridorReceiverStartsAndIdles : Obligations.CorridorReceiverStartsAndIdles := by
  intro s p u
  refine ⟨fun hhunt => execFrameStart_of_going s p [] _ hhunt rfl, fun more r => execFrameStart_of_going s p more r,
    fun h => ?_, fun h => ?_⟩
  · change execCorridorRxIdle p s = _
    unfold execCorridorRxIdle
    rw [idle_of_not_inProgress _ h]
    rfl
  · change execCorridorRxIdle p s = _
    unfold execCorridorRxIdle
    rw [idle_of_inProgress _ h]
    rfl

/-! ### Counting and ports -/

@[simp] theorem port_count (s : State) (ref : CounterRef) (p : Port) : (s.count ref).port p = s.port p := by
  cases p
  · exact count_portA s ref
  · exact count_portB s ref

/-! ### What a free line starts (R28, R30) -/

theorem choice_control (x : PortState) (c : ControlFrame) (h : x.pendingControl = some c) : x.choice = .control c := by
  simp [PortState.choice, h]

theorem choice_queued (x : PortState) (f : QueuedFrame) (rest : List QueuedFrame) (hpending : x.pendingControl = none)
    (hqueue : x.queue = f :: rest) (hheld : x.held = false) : x.choice = .queued f := by
  simp [PortState.choice, hpending, hqueue, hheld]

/-- With no control frame pending and a queue that is empty or held, a FILL is sent when the fill timer has run out and
nothing else is. -/
theorem choice_fill (x : PortState) (hpending : x.pendingControl = none) (hqueue : x.queue = [] ∨ x.held = true) :
    x.choice = if x.fillTimer = some 0 then .fill else .nothing := by
  unfold PortState.choice
  rw [hpending]
  cases hq : x.queue with
  | nil => rfl
  | cons f rest =>
    have hheld : x.held = true := hqueue.resolve_left (by simp [hq])
    simp [hheld]

/-- TX_START on an ENABLED port with a free line starts what the port chooses. -/
theorem execTxStart_of_choice (s : State) (p : Port) (c : TxChoice) (henabled : (s.port p).mode = .enabled)
    (hfree : (s.port p).sending = none) (hchoice : (s.port p).choice = c) :
    execTxStart p s = (s.startChosen p c).elim (noEvent s) taken := by
  unfold execTxStart
  rw [if_pos ⟨henabled, hfree⟩, hchoice]
  cases s.startChosen p c <;> rfl

/-! ### The end of a transmission (R29, R199) -/

theorem freeLine_queue (s : State) (p : Port) : ((s.freeLine p).port p).queue = (s.port p).queue := by
  simp [State.freeLine]

theorem dropSent_of_head (s : State) (p : Port) (f : QueuedFrame) (rest : List QueuedFrame)
    (hqueue : (s.port p).queue = f :: rest) :
    s.dropSent p = if f.ownAlert then (s.setQueue p rest).alertGone else s.setQueue p rest := by
  unfold State.dropSent
  rw [hqueue]

/-- A FRAME_TX_END counts and frees the line, and only a queued frame leaves the queue. -/
theorem execFrameTxEnd_of_sending (s : State) (p : Port) (x : Sending) (h : (s.port p).sending = some x) :
    execFrameTxEnd p s =
      if x.origin = .queue then .next (((s.count (.port p .txFrames)).freeLine p).dropSent p).endEvent
      else .next ((s.count (.port p .txFrames)).freeLine p).endEvent := by
  unfold execFrameTxEnd
  rw [h]
  obtain ⟨origin, frame⟩ := x
  cases origin <;> rfl

/-- Settles O19: TX_START by the port's choice, FRAME_TX_END by the origin of the frame on the line. -/
theorem transmitSideStartsAndEnds : Obligations.TransmitSideStartsAndEnds := by
  refine ⟨fun s p henabled hfree => ?_, fun s p x hsending => ?_⟩
  case refine_1 =>
    have hstart := fun c => execTxStart_of_choice s p c henabled hfree
    refine ⟨fun h => hstart _ (choice_control _ _ h), fun h => hstart _ (choice_control _ _ h),
      fun f rest hpending hqueue hheld => hstart _ (choice_queued _ f rest hpending hqueue hheld),
      fun hpending hqueue hfill => hstart .fill ?_, fun hpending hqueue hfill => hstart .nothing ?_⟩
    · rw [choice_fill _ hpending hqueue, if_pos hfill]
    · rw [choice_fill _ hpending hqueue, if_neg hfill]
  case refine_2 =>
    intro v u
    have hu : u = v.freeLine p := by simp [u, v, State.freeLine, Config.fillPeriod]
    have hend : execFrameTxEnd p s =
        if x.origin = .queue then .next (u.dropSent p).endEvent else .next u.endEvent := by
      rw [hu]
      exact execFrameTxEnd_of_sending s p x hsending
    have hdrop : ∀ f rest, (s.port p).queue = f :: rest →
        u.dropSent p = if f.ownAlert then (u.setQueue p rest).alertGone else u.setQueue p rest := by
      intro f rest hqueue
      refine dropSent_of_head u p f rest ?_
      rw [hu, freeLine_queue, port_count, hqueue]
    refine ⟨fun horigin => ?_, fun f rest horigin hqueue halert => ?_, fun f rest horigin hqueue halert => ?_⟩
    · exact hend.trans (if_neg horigin)
    · rw [if_pos horigin, hdrop f rest hqueue, halert] at hend
      exact hend
    · rw [if_pos horigin, hdrop f rest hqueue, halert] at hend
      exact hend

end Sys2Proof.LineFormats
end

section
/-! The assembler of a beacon line: report starts, characters stored, and idle lines (R11, R42, R43, R45, R51, R53). -/

namespace Sys2Proof.LineFormats

open Sys2Proof.Machine Sys2Proof.Safety Sys2Proof.Laws

/-! ### Lines that take characters (R42) -/

theorem assembles_iff (m : LineMode) : m.assembles = true ↔ m = .enabled ∨ m = .draining := by
  cases m <;> simp [LineMode.assembles]

theorem lineRun_of_assembles (s : State) (l : Fin 8) (chars : List BeaconChar) (h : (s.line l).mode.assembles = true) :
    s.lineRun l chars = some (runChars (Assembler.char (s.lineSetting l).parity) (s.line l).assembler chars) := by
  simp [State.lineRun, h]

/-- A sync character with a good stop bit begins a report in SEEK, its parity mark as the line's parity setting finds
it. -/
theorem runChars_syncChar (parity : Parity) (parityBit : Bool) (more : List BeaconChar) :
    runChars (Assembler.char parity) .seek ({ data := 0xC3, parityBit := parityBit, stopGood := true } :: more) =
      runChars (Assembler.char parity)
        (.collect [0xC3] (parityError parity { data := 0xC3, parityBit := parityBit, stopGood := true }) false) more := by
  simp [runChars, Assembler.char]

theorem execReportStart_of_going (s : State) (l : Fin 8) (parityBit : Bool) (more : List BeaconChar) (b : Assembler)
    (hline : (s.line l).mode.assembles = true) (hseek : (s.line l).assembler = .seek)
    (hrun : runChars (Assembler.char (s.lineSetting l).parity) (.collect [0xC3]
      (parityError (s.lineSetting l).parity { data := 0xC3, parityBit := parityBit, stopGood := true }) false) more =
        .going b) :
    execReportStart l parityBit more s = .next (s.setLine l { s.line l with assembler := b }).endEvent := by
  unfold execReportStart
  rw [if_pos ⟨hline, hseek⟩, runChars_syncChar, hrun]
  rfl

/-- A character that is not the ninth is stored, and adds its parity finding and its stop bit to the marks. -/
theorem runChars_storedChar (parity : Parity) (got : List Byte) (p f : Bool) (d : BeaconChar) (h : got.length < 8) :
    runChars (Assembler.char parity) (.collect got p f) [d] =
      .going (.collect (got ++ [d.data]) (p || parityError parity d) (f || !d.stopGood)) := by
  have hshort : got.length + 1 < 9 := by omega
  simp [runChars, Assembler.char, hshort]

/-! ### Idle lines (R42, R43, R45, R53) -/

section Idle

variable (s : State) (l : Fin 8) (hline : (s.line l).mode.assembles = true)

include hline

theorem execBeaconLineIdle_settle (h : (s.line l).assembler = .settle) :
    execBeaconLineIdle l s = .next (s.setLine l { s.line l with assembler := .seek }).endEvent := by
  unfold execBeaconLineIdle
  rw [if_pos hline, h]
  rfl

theorem execBeaconLineIdle_seek (h : (s.line l).assembler = .seek) : execBeaconLineIdle l s = .next s.endEvent := by
  unfold execBeaconLineIdle
  rw [if_pos hline, h]
  rfl

theorem execBeaconLineIdle_collect (chars : List Byte) (p f : Bool) (h : (s.line l).assembler = .collect chars p f) :
    execBeaconLineIdle l s = .next (s.reportEnded l .framing).endEvent := by
  unfold execBeaconLineIdle
  rw [if_pos hline, h]
  rfl

end Idle

theorem reportEnded_enabled (s : State) (l : Fin 8) (c : ReportClass) (h : (s.line l).mode = .enabled) :
    s.reportEnded l c = (s.setLine l { s.line l with assembler := .seek }).dealReport l c := by
  unfold State.reportEnded
  rw [h]

theorem reportEnded_draining (s : State) (l : Fin 8) (c : ReportClass) (h : (s.line l).mode = .draining) :
    s.reportEnded l c = (s.setLine l { s.line l with assembler := .seek }).drainReport l c := by
  unfold State.reportEnded
  rw [h]

/-- A fault on a line whose assembler and streak stand as in `x` raises BEACON_FAULT and adds to the streak, and the eighth
quarantines the line (R45, R49). -/
theorem faulted_setLine (s : State) (l : Fin 8) (x : LineState) :
    (s.setLine l x).faulted l = (s.raise .beaconFault).setLine l
      (if 8 ≤ x.streak + 1 then { mode := .quarantined, assembler := .settle, buffer := none, streak := 8 }
       else { x with streak := x.streak + 1 }) := by
  unfold State.faulted
  simp only [raise_setLine, line_setLine_same, setLine_setLine, Config.quarantineStreak]
  split <;> rfl

/-- A report cut off on an ENABLED line is a framing fault (R43, R45). -/
theorem reportEnded_framing_enabled (s : State) (l : Fin 8) (h : (s.line l).mode = .enabled) :
    s.reportEnded l .framing = ((s.count (.beacon l .framingErr)).raise .beaconFault).setLine l
      (if 8 ≤ (s.line l).streak + 1 then { mode := .quarantined, assembler := .settle, buffer := none, streak := 8 }
       else { s.line l with assembler := .seek, streak := (s.line l).streak + 1 }) := by
  rw [reportEnded_enabled s l _ h, State.dealReport, count_setLine, faulted_setLine]

/-- A report cut off on a DRAINING line is counted as a framing fault, and the line enters DISABLED (R53). -/
theorem reportEnded_framing_draining (s : State) (l : Fin 8) (h : (s.line l).mode = .draining) :
    s.reportEnded l .framing = ((s.count (.beacon l .framingErr)).raise .beaconFault).setLine l
      { mode := .disabled, assembler := .settle, buffer := none, streak := 0 } := by
  rw [reportEnded_draining s l _ h, State.drainReport, State.drainCount, State.enterDisabled, count_setLine,
    raise_setLine, setLine_setLine]

/-! ### Parity (R11) -/

/-- The ones of a character's data byte are those counted by the parity rule. -/
theorem onesIn_eq_countP (b : Byte) : onesIn b = (List.range 8).countP (fun i => b.getLsbD i) :=
  List.countP_eq_length_filter.symm

/-- Settles O22: starts and stored characters by the assembler's run, idle lines by the assembler's and the line's state. -/
theorem assemblerStartsAndIdles : Obligations.AssemblerStartsAndIdles := by
  refine ⟨fun s l parityBit hmode => ?_, fun d => ?_⟩
  case refine_1 =>
    intro c parity a x
    have hline : (s.line l).mode.assembles = true := (assembles_iff _).mpr hmode
    have hgoing : ∀ (chars : List BeaconChar) (b : Assembler),
        runChars (Assembler.char parity) x.assembler chars = .going b →
        exec (.reportComplete l chars) s = .next (s.setLine l { x with assembler := b }).endEvent := fun chars b hrun =>
      reportComplete_of_going s l chars b (by rw [lineRun_of_assembles s l chars hline]; exact congrArg some hrun)
    refine ⟨fun hseek => execReportStart_of_going s l parityBit [] a hline hseek rfl,
      fun more b hseek hrun => execReportStart_of_going s l parityBit more b hline hseek hrun,
      hgoing, fun got p f d hcollect hshort => hgoing [d] _ ?_,
      execBeaconLineIdle_settle s l hline, execBeaconLineIdle_seek s l hline,
      fun chars p f hcollect henabled => ?_, fun chars p f hcollect hdraining => ?_⟩
    · rw [hcollect, runChars_storedChar parity got p f d hshort]
    · rw [← reportEnded_framing_enabled s l henabled]
      exact execBeaconLineIdle_collect s l hline chars p f hcollect
    · rw [← reportEnded_framing_draining s l hdraining]
      exact execBeaconLineIdle_collect s l hline chars p f hcollect
  case refine_2 =>
    simp only [parityError, onesIn_eq_countP, bit]
    exact ⟨trivial, trivial, trivial⟩

end Sys2Proof.LineFormats
end

section
/-! Commands that name an event the state does not allow (log 2): what keeps each from being an event of its block. -/

namespace Sys2Proof.LineFormats

open Sys2Proof.Machine Sys2Proof.Safety Sys2Proof.Laws

/-! ### Corridor ports -/

section Port

variable (s : State) (p : Port)

theorem execValidFrame_of_other (chars : List SerialChar) (h : ∀ r f, s.frameFrom p chars ≠ some (r, .valid f)) :
    execValidFrame p chars s = .next s := by
  unfold execValidFrame
  split
  next r f hfrom => exact absurd hfrom (h r f)
  next => rfl

theorem execCrcError_of_other (chars : List SerialChar) (h : ∀ r, s.frameFrom p chars ≠ some (r, .crcError)) :
    execCrcError p chars s = .next s := by
  unfold execCrcError
  split
  next r hfrom => exact absurd hfrom (h r)
  next => rfl

theorem execLengthError_of_other (chars : List SerialChar) (h : ∀ r, s.frameFrom p chars ≠ some (r, .lengthError)) :
    execLengthError p chars s = .next s := by
  unfold execLengthError
  split
  next r hfrom => exact absurd hfrom (h r)
  next => rfl

theorem execFrameStart_of_noStart (more : List SerialChar)
    (h : (s.port p).receiver ≠ .hunt ∨ ∀ r, runChars Receiver.char (.header [] false) more ≠ .going r) :
    execFrameStart p more s = .next s := by
  unfold execFrameStart
  by_cases hhunt : (s.port p).receiver = .hunt
  · rw [if_pos hhunt, runChars_startByte]
    split
    next r hrun => exact absurd hrun (h.resolve_left (not_not_intro hhunt) r)
    next => rfl
    next => rfl
  · exact if_neg hhunt

theorem execFrameTxEnd_of_free (h : (s.port p).sending = none) : execFrameTxEnd p s = .next s := by
  unfold execFrameTxEnd
  rw [h]
  rfl

theorem execTxStart_of_not (h : ¬ ((s.port p).mode = .enabled ∧ (s.port p).sending = none)) :
    execTxStart p s = .next s :=
  if_neg h

theorem execFillTimerExpiry_of_not (h : (s.port p).mode ≠ .enabled ∨ (s.port p).fillTimer = none) :
    execFillTimerExpiry p s = .next s :=
  if_neg fun ⟨henabled, hruns⟩ => h.elim (· henabled) fun hstopped => by simp [hstopped] at hruns

theorem execSilenceTimerExpiry_of_not (h : (s.port p).mode ≠ .enabled ∨ (s.port p).silenceTimer = none) :
    execSilenceTimerExpiry p s = .next s :=
  if_neg fun ⟨henabled, hruns⟩ => h.elim (· henabled) fun hstopped => by simp [hstopped] at hruns

theorem execHoldTimerExpiry_of_stopped (h : (s.port p).holdTimer = none) : execHoldTimerExpiry p s = .next s := by
  simp only [execHoldTimerExpiry, h, noEvent]

theorem execHoldRepeatExpiry_of_stopped (h : (s.port p).holdRepeat = none) : execHoldRepeatExpiry p s = .next s := by
  simp only [execHoldRepeatExpiry, h, noEvent]

theorem execDrainComplete_of_not
    (h : (s.port p).mode ≠ .draining ∨ (s.port p).rxMarked = true ∨ (s.port p).txMarked = true) :
    execDrainComplete p s = .next s := by
  refine if_neg fun ⟨hdraining, hrx, htx⟩ => ?_
  rcases h with hmode | hmark | hmark
  · exact hmode hdraining
  · exact absurd hmark (by simp [hrx])
  · exact absurd hmark (by simp [htx])

end Port

/-! ### Beacon lines and the report engine -/

section Line

variable (s : State) (l : Fin 8)

/-- A DISABLED or QUARANTINED line takes no characters (R42). -/
theorem assembles_eq_false {m : LineMode} (h : m = .disabled ∨ m = .quarantined) : m.assembles = false := by
  rcases h with rfl | rfl <;> rfl

theorem execReportComplete_of_not (chars : List BeaconChar)
    (h : ((s.line l).mode = .disabled ∨ (s.line l).mode = .quarantined) ∨
      runChars (Assembler.char (s.lineSetting l).parity) (s.line l).assembler chars = .overran) :
    execReportComplete l chars s = .next s := by
  unfold execReportComplete
  have hrun : s.lineRun l chars = none ∨ s.lineRun l chars = some .overran := by
    unfold State.lineRun
    rcases h with hdeaf | hover
    · simp [assembles_eq_false hdeaf]
    · rw [hover]
      split <;> simp
  rcases hrun with hrun | hrun <;> rw [hrun] <;> rfl

theorem execReportStart_of_not (bit : Bool) (more : List BeaconChar)
    (h : ((s.line l).mode = .disabled ∨ (s.line l).mode = .quarantined) ∨ (s.line l).assembler ≠ .seek ∨
      ∀ b, runChars (Assembler.char (s.lineSetting l).parity) .seek
        ({ data := 0xC3, parityBit := bit, stopGood := true } :: more) ≠ .going b) :
    execReportStart l bit more s = .next s := by
  unfold execReportStart
  split
  next hseek =>
    rcases h with hdeaf | hnot | hrun
    · exact absurd hseek.1 (by simp [assembles_eq_false hdeaf])
    · exact absurd hseek.2 hnot
    · split
      next b hgoing => exact absurd hgoing (hrun b)
      next => rfl
      next => rfl
  next => rfl

theorem execBeaconLineIdle_of_deaf (h : (s.line l).mode = .disabled ∨ (s.line l).mode = .quarantined) :
    execBeaconLineIdle l s = .next s :=
  if_neg (by simp [assembles_eq_false h])

theorem execLineDrainComplete_of_not (how : ReportEnd)
    (h : (s.line l).mode ≠ .draining ∨ (s.line l).assembler = .settle ∨ (s.line l).assembler = .seek) :
    execLineDrainComplete l how s = .next s := by
  unfold execLineDrainComplete
  split
  next hmode hcollect => simp [hmode, hcollect] at h
  next hmode hcollect => simp [hmode, hcollect] at h
  next => rfl

/-- Characters that do not end a report give none. -/
theorem reportFrom_of_not_ended (chars : List BeaconChar)
    (h : ∀ b raw, runChars (Assembler.char (s.lineSetting l).parity) (s.line l).assembler chars ≠ .ended b raw) :
    s.reportFrom l chars = none := by
  unfold State.reportFrom State.lineRun
  split
  next b raw hrun =>
    split at hrun
    next => exact absurd (Option.some.inj hrun) (h b raw)
    next => exact nomatch hrun
  next => rfl

theorem execLineDrainComplete_ninth_of_not (chars : List BeaconChar)
    (h : ∀ b raw, runChars (Assembler.char (s.lineSetting l).parity) (s.line l).assembler chars ≠ .ended b raw) :
    execLineDrainComplete l (.ninth chars) s = .next s := by
  unfold execLineDrainComplete
  split
  next hhow => exact nomatch hhow
  next hhow =>
    cases hhow
    rw [reportFrom_of_not_ended s l chars h]
    rfl
  next => rfl

end Line

theorem execReportTake_of_empty (s : State) (h : ∀ l : Fin 8, (s.line l).buffer = none) :
    execReportTake s = .next s := by
  have hnone : s.nextReport = none := by simp [State.nextReport, List.findSome?_eq_none_iff, h]
  unfold execReportTake
  rw [hnone]
  rfl

/-! ### Records, evaluations and lockouts -/

section Records

variable (s : State)

theorem execEtaExpiry_of_free (r : Fin 24) (h : s.record r = none) : execEtaExpiry r s = .next s := by
  simp only [execEtaExpiry, h, noEvent]

theorem execLifetimeExpiry_of_free (r : Fin 24) (h : s.record r = none) : execLifetimeExpiry r s = .next s := by
  simp only [execLifetimeExpiry, h, noEvent]

theorem execHoldOffExpiry_of_absent (r : Fin 24) (h : ∀ x ∈ s.record r, x.holdOff = none) :
    execHoldOffExpiry r s = .next s := by
  unfold execHoldOffExpiry
  split
  next => rfl
  next x hx =>
    rw [h x hx]
    rfl

theorem execEvaluation_of_not (h : s.mode ≠ .active ∨ s.evalDue = false) : execEvaluation s = .next s := by
  refine if_neg fun ⟨hactive, hdue⟩ => h.elim (· hactive) fun hclear => ?_
  exact absurd hdue (by simp [hclear])

theorem execLockoutExpiry_of_stopped (ap : Fin 8) (h : s.lockout ap = none) : execLockoutExpiry ap s = .next s := by
  simp only [execLockoutExpiry, h, noEvent]

end Records

/-! ### Slot timers -/

section Slot

variable (s : State) (k : Fin 4)

/-- A slot that runs no timer of a kind has no timer kind to match it. -/
theorem timerKind_ne (kind : SlotTimerKind) (h : ∀ left, s.slotTimer k ≠ some { kind := kind, left := left }) :
    s.timerKind k ≠ some kind := by
  unfold State.timerKind
  intro hkind
  obtain ⟨t, ht, rfl⟩ := Option.map_eq_some_iff.mp hkind
  exact h t.left ht

theorem execResponseTimeout_of_not
    (h : (∀ left, s.slotTimer k ≠ some { kind := .response, left := left }) ∨
      ((s.slot k).state ≠ .called ∧ (s.slot k).state ≠ .closing)) :
    execResponseTimeout k s = .next s := by
  unfold execResponseTimeout
  split
  next hkind =>
    obtain ⟨hcalled, hclosing⟩ := h.resolve_left fun hother => timerKind_ne s k _ hother hkind
    split
    next hst => exact absurd hst hcalled
    next hst => exact absurd hst hclosing
    next => rfl
    next => rfl
    next => rfl
  next => rfl

theorem execStartLimitExpiry_of_not
    (h : (∀ left, s.slotTimer k ≠ some { kind := .startLimit, left := left }) ∨ (s.slot k).state ≠ .granted) :
    execStartLimitExpiry k s = .next s :=
  if_neg fun ⟨hkind, hst⟩ => h.elim (fun hother => timerKind_ne s k _ hother hkind) (· hst)

theorem execServiceLimitExpiry_of_not
    (h : (∀ left, s.slotTimer k ≠ some { kind := .serviceLimit, left := left }) ∨ (s.slot k).state ≠ .serving) :
    execServiceLimitExpiry k s = .next s :=
  if_neg fun ⟨hkind, hst⟩ => h.elim (fun hother => timerKind_ne s k _ hother hkind) (· hst)

end Slot

/-! ### The phase port -/

section Phase

variable (s : State) (chars : List SerialChar)

theorem execPhases_of_other (h : ∀ g, s.messageFrom chars ≠ some (.phases g)) : execPhases chars s = .next s := by
  unfold execPhases
  split
  next g hm => exact absurd hm (h g)
  next => rfl

theorem execAccept_of_other (h : ∀ n, s.messageFrom chars ≠ some (.accept n)) : execAccept chars s = .next s := by
  unfold execAccept
  split
  next n hm => exact absurd hm (h n)
  next => rfl

theorem execStart_of_other (h : ∀ n, s.messageFrom chars ≠ some (.start n)) : execStart chars s = .next s := by
  unfold execStart
  split
  next n hm => exact absurd hm (h n)
  next => rfl

theorem execDeny_of_other (h : ∀ n reason, s.messageFrom chars ≠ some (.deny n reason)) :
    execDeny chars s = .next s := by
  unfold execDeny
  split
  next n reason hm => exact absurd hm (h n reason)
  next => rfl

theorem execEnd_of_other (h : ∀ n reason, s.messageFrom chars ≠ some (.endService n reason)) :
    execEnd chars s = .next s := by
  unfold execEnd
  split
  next n reason hm => exact absurd hm (h n reason)
  next => rfl

theorem execInvalidMessage_of_other (h : s.messageFrom chars ≠ some .invalid) :
    execInvalidMessage chars s = .next s := by
  unfold execInvalidMessage
  split
  next hm => exact absurd hm h
  next => rfl

/-- The sync byte with a good stop bit begins a message in HUNT (R15). -/
theorem runChars_syncByte (more : List SerialChar) :
    runChars MsgReceiver.char .hunt ({ data := 0xA5, stopGood := true } :: more) =
      runChars MsgReceiver.char (.collect [0xA5] false) more :=
  runChars_cons_of_none more rfl

theorem execMessageStart_of_noStart (more : List SerialChar)
    (h : s.msgReceiver ≠ .hunt ∨ ∀ r, runChars MsgReceiver.char (.collect [0xA5] false) more ≠ .going r) :
    execMessageStart more s = .next s := by
  unfold execMessageStart
  rw [runChars_syncByte]
  split
  next => rfl
  next hhunt =>
    split
    next r hrun => exact absurd hrun (h.resolve_left (not_not_intro hhunt) r)
    next => rfl
    next => rfl

theorem execMessageCutOff_of_hunt (h : s.msgReceiver = .hunt) : execMessageCutOff s = .next s := by
  simp only [execMessageCutOff, h, noEvent]

theorem execMessageTxEnd_of_empty (h : s.output = []) : execMessageTxEnd s = .next s := by
  simp only [execMessageTxEnd, h, noEvent]

theorem execPhaseAgeExpiry_of_unknown (h : s.controller.phaseKnown = false) : execPhaseAgeExpiry s = .next s := by
  simp [execPhaseAgeExpiry, h, noEvent]

theorem execReadyLineChange_of_same : execReadyLineChange s.controller.ready s = .next s := if_pos rfl

end Phase

/-! ### The local frame handler -/

/-- Which frames a row of the local frame handler takes, by the value of the kind, the request code and the action byte
(R175, R177, section 9.3; logs 9 and 22). -/
def rowTakes (kind code action : Nat) : HandlerRow → Prop
  | .time => kind = 3
  | .notice => kind = 4
  | .unknownKind => kind < 3 ∨ 5 < kind
  | .unknownRequest => kind = 5 ∧ (code = 0 ∨ 14 < code)
  | .identify => kind = 5 ∧ code = 1
  | .readStatus => kind = 5 ∧ code = 2
  | .readTable => kind = 5 ∧ code = 3
  | .writeEntry => kind = 5 ∧ code = 4
  | .verifyTable => kind = 5 ∧ code = 5
  | .readRecords => kind = 5 ∧ code = 6
  | .readSlots => kind = 5 ∧ code = 7
  | .withdraw => kind = 5 ∧ code = 8
  | .portDisable => kind = 5 ∧ code = 9 ∧ action ≠ 1 ∧ action ≠ 2
  | .portEnable => kind = 5 ∧ code = 9 ∧ action = 1
  | .portReset => kind = 5 ∧ code = 9 ∧ action = 2
  | .lineDisable => kind = 5 ∧ code = 10 ∧ action ≠ 1
  | .lineEnable => kind = 5 ∧ code = 10 ∧ action = 1
  | .readCounters => kind = 5 ∧ code = 11
  | .readAttention => kind = 5 ∧ code = 12
  | .commission => kind = 5 ∧ code = 13
  | .decommission => kind = 5 ∧ code = 14

theorem rowTakes_requestRow (body : List Byte) :
    rowTakes 5 (byteAt body 0) (byteAt body 2) (requestRow body) := by
  unfold requestRow
  split
  case h_9 hcode => split_ifs <;> simp_all [rowTakes]
  case h_10 hcode => split_ifs <;> simp_all [rowTakes]
  case h_15 =>
    simp only [imp_false] at *
    simp only [rowTakes, true_and]
    omega
  all_goals exact ⟨rfl, ‹_›⟩

/-- The row of a frame takes it. -/
theorem rowTakes_rowOf (f : LinkFrame) : rowTakes f.kind.toNat (byteAt f.body 0) (byteAt f.body 2) (rowOf f) := by
  unfold rowOf
  split_ifs with htime hnotice hrequest
  · exact congrArg BitVec.toNat htime
  · exact congrArg BitVec.toNat hnotice
  · rw [hrequest]
    exact rowTakes_requestRow f.body
  · unfold kindTime at htime
    unfold kindNotice at hnotice
    unfold kindRequest at hrequest
    change f.kind.toNat < 3 ∨ 5 < f.kind.toNat
    bv_omega

/-- A handler row that takes nothing from the head changes nothing. -/
theorem exec_command_of_takeHead_none (s : State) (row : HandlerRow) (h : s.takeHead row = none) :
    exec row.command s = .next s := by
  cases row
  case time => simp only [HandlerRow.command, exec, execTime, h, noEvent]
  case notice => simp only [HandlerRow.command, exec, execNoticeReceive, h, noEvent]
  case unknownKind => simp only [HandlerRow.command, exec, execUnknownKind, h, noEvent]
  all_goals
    simp only [HandlerRow.command, exec, execUnknownRequest, execIdentify, execReadStatus, execReadTable, execWriteEntry,
      execVerifyTable, execReadRecords, execReadSlots, execWithdraw, execPortDisable, execPortEnable, execPortReset,
      execLineDisable, execLineEnable, execReadCounters, execReadAttention, execCommission, execDecommission]
    exact request_of_other _ _ s h

theorem exec_command_of_empty (s : State) (row : HandlerRow) (h : s.inbound = []) : exec row.command s = .next s :=
  exec_command_of_takeHead_none s row (by unfold State.takeHead; rw [h])

theorem exec_command_of_otherHead (s : State) (row : HandlerRow) (x : InboundFrame) (rest : List InboundFrame)
    (hhead : s.inbound = x :: rest)
    (h : ¬ rowTakes x.frame.kind.toNat (byteAt x.frame.body 0) (byteAt x.frame.body 2) row) :
    exec row.command s = .next s := by
  refine exec_command_of_takeHead_none s row (takeHead_of_other s row x rest hhead ?_)
  rintro rfl
  exact h (rowTakes_rowOf x.frame)

/-- The rows of the local frame handler, in the order of the statement. -/
def handlerRows : List HandlerRow :=
  [.time, .notice, .unknownKind, .unknownRequest, .identify, .readStatus, .readTable, .writeEntry, .verifyTable,
   .readRecords, .readSlots, .withdraw, .portDisable, .portEnable, .portReset, .lineDisable, .lineEnable, .readCounters,
   .readAttention, .commission, .decommission]

/-- The rows that take one request code whatever the action, with the code. -/
def codeRows : List (HandlerRow × Nat) :=
  [(.identify, 1), (.readStatus, 2), (.readTable, 3), (.writeEntry, 4), (.verifyTable, 5), (.readRecords, 6),
   (.readSlots, 7), (.withdraw, 8), (.readCounters, 11), (.readAttention, 12), (.commission, 13), (.decommission, 14)]

theorem rowTakes_codeRows (kind code action : Nat) :
    ∀ q ∈ codeRows, rowTakes kind code action q.1 → kind = 5 ∧ code = q.2 := by
  simp [codeRows, rowTakes]

theorem exec_of_empty_inbound (s : State) (h : s.inbound = []) :
    ∀ c ∈ handlerRows.map HandlerRow.command, exec c s = .next s := by
  intro c hc
  obtain ⟨row, -, rfl⟩ := List.mem_map.mp hc
  exact exec_command_of_empty s row h

/-! ### The obligation -/

/-- Settles O4, clause by clause: the condition of each command's event fails, or its characters end no such item. -/
theorem disallowedEventsChangeNothing : Obligations.DisallowedEventsChangeNothing := by
  intro s
  refine ⟨execValidFrame_of_other s, execCrcError_of_other s, execLengthError_of_other s, execFrameStart_of_noStart s,
    execFrameTxEnd_of_free s, fun p h => ⟨?_, ?_, ?_⟩, fun p h => ?_, fun p h => ?_, fun p h => ?_,
    execHoldTimerExpiry_of_stopped s, execHoldRepeatExpiry_of_stopped s, execDrainComplete_of_not s, fun l => ?_,
    execReportTake_of_empty s, fun r h => ⟨?_, ?_, ?_⟩, execHoldOffExpiry_of_absent s, execEvaluation_of_not s,
    execLockoutExpiry_of_stopped s, fun k => ?_, fun chars => ?_, execMessageStart_of_noStart s,
    execMessageCutOff_of_hunt s, execMessageTxEnd_of_empty s, execPhaseAgeExpiry_of_unknown s,
    execReadyLineChange_of_same s, exec_of_empty_inbound s, fun x rest hhead => ?_⟩
  · exact execTxStart_of_not s p fun hstart => h hstart.1
  · exact execFillTimerExpiry_of_not s p (.inl h)
  · exact execSilenceTimerExpiry_of_not s p (.inl h)
  · exact execTxStart_of_not s p fun hstart => h hstart.2
  · exact execFillTimerExpiry_of_not s p (.inr h)
  · exact execSilenceTimerExpiry_of_not s p (.inr h)
  · exact ⟨execReportComplete_of_not s l, execReportStart_of_not s l, execBeaconLineIdle_of_deaf s l,
      execLineDrainComplete_of_not s l, execLineDrainComplete_ninth_of_not s l⟩
  · exact execEtaExpiry_of_free s r h
  · exact execLifetimeExpiry_of_free s r h
  · exact execHoldOffExpiry_of_absent s r (by simp [h])
  · exact ⟨execResponseTimeout_of_not s k, execStartLimitExpiry_of_not s k, execServiceLimitExpiry_of_not s k⟩
  · exact ⟨execPhases_of_other s chars, execAccept_of_other s chars, execStart_of_other s chars,
      execDeny_of_other s chars, execEnd_of_other s chars, execInvalidMessage_of_other s chars⟩
  · intro kind code action
    have hrow := fun row => exec_command_of_otherHead s row x rest hhead
    refine ⟨hrow .time, hrow .notice, fun h => hrow .unknownKind ?_, fun h => hrow .unknownRequest ?_, fun q hq h => ?_,
      fun h => hrow .portDisable ?_, fun h => hrow .portEnable ?_, fun h => hrow .portReset ?_,
      fun h => hrow .lineDisable ?_, fun h => hrow .lineEnable ?_⟩
    case refine_3 =>
      obtain ⟨y, hy, rfl⟩ := List.mem_map.mp
        (show q ∈ codeRows.map (fun y => (y.1.command, y.2)) from hq)
      refine hrow y.1 fun htakes => ?_
      obtain ⟨hkind, hcode⟩ := rowTakes_codeRows kind code action y hy htakes
      exact h.elim (· hkind) (· hcode)
    all_goals
      simp only [rowTakes]
      omega

end Sys2Proof.LineFormats
end

section
/-! What a change inside an event keeps of the laws of the queues, the ports, the beacon lines and the alert count (R25,
R28 to R38, R41 to R53, R197 to R199): one relation between the state before a change and the state after it, and the
operations that write ports, lines or the alert count. -/

namespace Sys2Proof.CorridorPorts

open Sys2Proof.Machine Sys2Proof.Safety Sys2Proof.Laws

/-! ### The laws, port by port -/

theorem port_cases {P : Port → Prop} (p : Port) (h : P p) (ho : P p.other) (q : Port) : P q := by
  cases p <;> cases q <;> assumption

theorem queuesFit_iff (s : State) :
    QueuesFit s ↔ (40 ≤ s.params.split ∧ s.params.split ≤ 152) ∧
      ∀ p, usedUnits (s.port p).queue ≤ s.partition p :=
  ⟨fun ⟨hlow, hhigh, ha, hb⟩ => ⟨⟨hlow, hhigh⟩, port_cases .a ha hb⟩,
    fun ⟨⟨hlow, hhigh⟩, h⟩ => ⟨hlow, hhigh, h .a, h .b⟩⟩

theorem portsLawful_iff (s : State) : PortsLawful s ↔ ∀ p, PortLaw (s.port p) :=
  ⟨fun ⟨ha, hb⟩ => port_cases .a ha hb, fun h => ⟨h .a, h .b⟩⟩

/-- This engine's ALERTs in the two queues. -/
def alertsQueued (s : State) : Nat := ownAlerts s.portA.queue + ownAlerts s.portB.queue

theorem alertsQueued_eq (s : State) (p : Port) :
    alertsQueued s = ownAlerts (s.port p).queue + ownAlerts (s.port p.other).queue := by
  cases p
  · rfl
  · exact Nat.add_comm _ _

/-- The alert count inside an event: as between events, but an ALERT may be owed while none is queued (R198). -/
def AlertsHeld (s : State) : Prop :=
  s.alertCount = alertsQueued s ∧ s.alertCount ≤ Config.maxAlerts ∧ (s.alertDue = true → s.alertCount = 0)

/-! ### The relation -/

/-- A change keeps the laws of the queues, the ports and the lines. -/
structure FramesKept (s t : State) : Prop where
  queues : QueuesFit s → QueuesFit t
  ports : PortsLawful s → PortsLawful t
  lines : LinesLawful s → LinesLawful t

/-- A change keeps these laws and that of the alert count. -/
structure Keeps (s t : State) : Prop extends FramesKept s t where
  alerts : AlertsHeld s → AlertsHeld t

theorem FramesKept.trans {s t u : State} (h : FramesKept s t) (k : FramesKept t u) : FramesKept s u :=
  ⟨k.queues ∘ h.queues, k.ports ∘ h.ports, k.lines ∘ h.lines⟩

theorem Keeps.refl (s : State) : Keeps s s := ⟨⟨id, id, id⟩, id⟩

theorem Keeps.trans {s t u : State} (h : Keeps s t) (k : Keeps t u) : Keeps s u :=
  ⟨h.toFramesKept.trans k.toFramesKept, k.alerts ∘ h.alerts⟩

theorem framesKept_of_same {s t : State} (ha : t.portA = s.portA) (hb : t.portB = s.portB) (hl : t.lines = s.lines)
    (hp : t.params = s.params) : FramesKept s t := by
  refine ⟨fun h => ?_, fun h => ?_, fun h => ?_⟩
  · simpa only [QueuesFit, State.partition, ha, hb, hp] using h
  · simpa only [PortsLawful, ha, hb] using h
  · simpa only [LinesLawful, State.line, hl] using h

/-- A change that writes no port, line, parameter and neither alert field keeps everything. -/
theorem keeps_of_same {s t : State} (ha : t.portA = s.portA) (hb : t.portB = s.portB) (hl : t.lines = s.lines)
    (hp : t.params = s.params) (hc : t.alertCount = s.alertCount) (hd : t.alertDue = s.alertDue) : Keeps s t :=
  ⟨framesKept_of_same ha hb hl hp, fun h => by simpa only [AlertsHeld, alertsQueued, ha, hb, hc, hd] using h⟩

theorem keeps_forEach {α : Type} (f : α → State → State) (hf : ∀ x t, Keeps t (f x t)) (xs : List α) (s : State) :
    Keeps s (forEach xs f s) := by
  induction xs generalizing s with
  | nil => exact .refl s
  | cons x xs ih => exact (hf x s).trans (ih (f x s))

theorem keeps_ite {c : Prop} [Decidable c] {s t u : State} (ht : Keeps s t) (hu : Keeps s u) :
    Keeps s (if c then t else u) := by
  split
  · exact ht
  · exact hu

/-! ### Counting and raising (R192, R195, R198) -/

/-- A raising makes an ALERT owed only while none is queued. -/
theorem raise_owed (s : State) (c : Condition) (h : s.alertDue = true → s.alertCount = 0) :
    (s.raise c).alertDue = true → (s.raise c).alertCount = 0 := by
  intro howed
  rw [raise_alertCount]
  unfold State.raise at howed
  split at howed
  · exact h howed
  · simp only [Bool.or_eq_true, Bool.and_eq_true, Bool.not_eq_true', State.alertPending, decide_eq_false_iff_not,
      Nat.not_lt, Nat.le_zero] at howed
    exact howed.elim h fun ⟨_, h0⟩ => h0

theorem count_owed (s : State) (ref : CounterRef) (h : s.alertDue = true → s.alertCount = 0) :
    (s.count ref).alertDue = true → (s.count ref).alertCount = 0 := by
  unfold State.count
  dsimp only
  split
  · split
    · exact h
    · exact raise_owed _ _ h
  · exact h

theorem keeps_raise (s : State) (c : Condition) : Keeps s (s.raise c) :=
  ⟨framesKept_of_same (raise_portA s c) (raise_portB s c) (raise_lines s c) (raise_params s c),
    fun ⟨hcount, hmax, howed⟩ =>
      ⟨by simpa only [alertsQueued, raise_alertCount, raise_portA, raise_portB] using hcount,
        by simpa only [raise_alertCount] using hmax, raise_owed s c howed⟩⟩

theorem keeps_count (s : State) (ref : CounterRef) : Keeps s (s.count ref) :=
  ⟨framesKept_of_same (count_portA s ref) (count_portB s ref) (count_lines s ref) (count_params s ref),
    fun ⟨hcount, hmax, howed⟩ =>
      ⟨by simpa only [alertsQueued, count_alertCount, count_portA, count_portB] using hcount,
        by simpa only [count_alertCount] using hmax, count_owed s ref howed⟩⟩

theorem keeps_count_raise (s : State) (ref : CounterRef) (c : Condition) : Keeps s ((s.count ref).raise c) :=
  (keeps_count s ref).trans (keeps_raise _ c)

/-! ### A port replaced, its queue kept -/

theorem alertsQueued_setPort (s : State) (p : Port) (x : PortState) (hq : x.queue = (s.port p).queue) :
    alertsQueued (s.setPort p x) = alertsQueued s := by
  rw [alertsQueued_eq _ p, alertsQueued_eq s p, port_setPort_same, port_setPort_other, hq]

/-- A port whose queue has room in its partition and whose law holds replaces one. -/
theorem framesKept_setPort (s : State) (p : Port) (x : PortState)
    (hfit : QueuesFit s → usedUnits x.queue ≤ s.partition p) (hlaw : PortLaw (s.port p) → PortLaw x) :
    FramesKept s (s.setPort p x) := by
  refine ⟨fun h => ?_, fun h => ?_, fun h => ?_⟩
  · have hx := hfit h
    rw [queuesFit_iff] at h ⊢
    obtain ⟨hsplit, hq⟩ := h
    refine ⟨by simpa only [setPort_params] using hsplit, port_cases p ?_ ?_⟩
    · simpa only [port_setPort_same, partition_setPort] using hx
    · simpa only [port_setPort_other, partition_setPort] using hq p.other
  · rw [portsLawful_iff] at h ⊢
    refine port_cases p ?_ ?_
    · simpa only [port_setPort_same] using hlaw (h p)
    · simpa only [port_setPort_other] using h p.other
  · simpa only [LinesLawful, line_setPort] using h

theorem keeps_setPort (s : State) (p : Port) (x : PortState) (hq : x.queue = (s.port p).queue)
    (hlaw : PortLaw (s.port p) → PortLaw x) : Keeps s (s.setPort p x) := by
  refine ⟨framesKept_setPort s p x (fun h => ?_) hlaw, fun h => ?_⟩
  · rw [hq]
    exact ((queuesFit_iff s).mp h).2 p
  · simpa only [AlertsHeld, setPort_alertCount, setPort_alertDue, alertsQueued_setPort s p x hq] using h

/-! ### Flow control and the queues (R25, R26, R32, R34) -/

/-- Flow control replaces one port by one with the same queue, and keeps its law: a port holds exactly while its
hold-repeat timer runs. -/
theorem evalFlow_eq_setPort (s : State) (p : Port) :
    ∃ x : PortState, s.evalFlow p = s.setPort p x ∧ x.queue = (s.port p).queue ∧ (PortLaw (s.port p) → PortLaw x) := by
  have hsame : ∃ x : PortState, s = s.setPort p x ∧ x.queue = (s.port p).queue ∧ (PortLaw (s.port p) → PortLaw x) :=
    ⟨s.port p, (setPort_port s p).symm, rfl, id⟩
  unfold State.evalFlow
  dsimp only
  split_ifs
  case pos => exact ⟨_, rfl, rfl, fun ⟨hhead, hmarks, hheld, _, hrest⟩ => ⟨hhead, hmarks, hheld, rfl, hrest⟩⟩
  case neg => exact hsame
  case pos => exact ⟨_, rfl, rfl, fun ⟨hhead, hmarks, hheld, _, hrest⟩ => ⟨hhead, hmarks, hheld, rfl, hrest⟩⟩
  all_goals exact hsame

theorem keeps_evalFlow (s : State) (p : Port) : Keeps s (s.evalFlow p) := by
  obtain ⟨x, hx, hq, hlaw⟩ := evalFlow_eq_setPort s p
  rw [hx]
  exact keeps_setPort s p x hq hlaw

theorem framesKept_setQueue (s : State) (p : Port) (q : List QueuedFrame)
    (hfit : QueuesFit s → usedUnits q ≤ s.partition p)
    (hlaw : PortLaw (s.port p) → PortLaw { s.port p with queue := q }) : FramesKept s (s.setQueue p q) :=
  (framesKept_setPort s p _ hfit hlaw).trans (keeps_evalFlow _ _).toFramesKept

theorem alertsQueued_setQueue (s : State) (p : Port) (q : List QueuedFrame) :
    alertsQueued (s.setQueue p q) = ownAlerts q + ownAlerts (s.port p.other).queue := by
  unfold State.setQueue
  obtain ⟨x, hx, hq, _⟩ := evalFlow_eq_setPort (s.setPort p { s.port p with queue := q }) p.other
  rw [hx, alertsQueued_setPort _ _ _ hq, alertsQueued_eq _ p, port_setPort_same, port_setPort_other]

theorem usedUnits_append (q r : List QueuedFrame) : usedUnits (q ++ r) = usedUnits q + usedUnits r := by
  simp [usedUnits]

theorem ownAlerts_append (q r : List QueuedFrame) : ownAlerts (q ++ r) = ownAlerts q + ownAlerts r := by
  simp [ownAlerts]

theorem ownAlerts_cons (f : QueuedFrame) (q : List QueuedFrame) :
    ownAlerts (f :: q) = (if f.ownAlert then 1 else 0) + ownAlerts q := by
  cases h : f.ownAlert <;> simp [ownAlerts, h, Nat.add_comm]

/-- A frame appended at the tail leaves the head as it is. -/
theorem lineHoldsHead_append (x : PortState) (f : QueuedFrame) (h : lineHoldsHead x) :
    lineHoldsHead { x with queue := x.queue ++ [f] } := by
  intro y hy horigin
  have hhead := h y hy horigin
  cases hq : x.queue with
  | nil => simp [hq] at hhead
  | cons g rest => simpa [hq] using hhead

theorem framesKept_enqueue (s : State) (p : Port) (f : QueuedFrame) : FramesKept s (s.enqueue p f) := by
  unfold State.enqueue
  split
  case isTrue hfits =>
    refine framesKept_setQueue s p _ (fun _ => ?_) (fun ⟨hhead, hrest⟩ => ⟨lineHoldsHead_append _ f hhead, hrest⟩)
    have hroom : f.frame.units + usedUnits (s.port p).queue ≤ s.partition p := by simpa [State.fits] using hfits
    rw [usedUnits_append, Nat.add_comm]
    simpa [usedUnits] using hroom
  case isFalse => exact (Keeps.refl s).toFramesKept

/-- A frame that fits brings its ALERT, if it is one of this engine's. -/
theorem alertsQueued_enqueue (s : State) (p : Port) (f : QueuedFrame) (hfits : s.fits p f.frame = true) :
    alertsQueued (s.enqueue p f) = alertsQueued s + ownAlerts [f] := by
  rw [State.enqueue, if_pos hfits, alertsQueued_setQueue, alertsQueued_eq s p, ownAlerts_append]
  omega

/-- A frame that is no ALERT of this engine keeps the alert count true. -/
theorem keeps_enqueue (s : State) (p : Port) (f : LinkFrame) : Keeps s (s.enqueue p { frame := f, ownAlert := false }) := by
  refine ⟨framesKept_enqueue s p _, fun h => ?_⟩
  by_cases hfits : s.fits p f = true
  · have hq : alertsQueued (s.enqueue p _) = alertsQueued s := alertsQueued_enqueue s p ⟨f, false⟩ hfits
    simpa only [AlertsHeld, enqueue_alertCount, enqueue_alertDue, hq] using h
  · rwa [State.enqueue, if_neg hfits]

/-! ### The end of an event (R198) -/

/-- A copy offered to a port keeps the count that of the queued ALERTs, and adds at most one. -/
theorem offerAlert_keeps_count (s : State) (f : LinkFrame) (p : Port) (h : s.alertCount = alertsQueued s) :
    (s.offerAlert f p).alertCount = alertsQueued (s.offerAlert f p) ∧
      (s.offerAlert f p).alertCount ≤ s.alertCount + 1 ∧ (s.offerAlert f p).alertDue = s.alertDue := by
  by_cases hfits : s.fits p f = true
  · have hq := alertsQueued_enqueue s p { frame := f, ownAlert := true } hfits
    have hc := enqueue_alertCount s p { frame := f, ownAlert := true }
    rw [State.offerAlert, if_pos hfits]
    refine ⟨?_, ?_, enqueue_alertDue _ _ _⟩
    · change (s.enqueue p _).alertCount + 1 = alertsQueued (s.enqueue p _)
      rw [hq, hc, h]
      rfl
    · exact Nat.le_of_eq (congrArg (· + 1) hc)
  · rw [State.offerAlert, if_neg hfits]
    exact ⟨h, Nat.le_succ _, rfl⟩

theorem framesKept_offerAlert (s : State) (f : LinkFrame) (p : Port) : FramesKept s (s.offerAlert f p) := by
  unfold State.offerAlert
  split
  · exact (framesKept_enqueue s p _).trans (framesKept_of_same rfl rfl rfl rfl)
  · exact (Keeps.refl s).toFramesKept

theorem framesKept_endEvent (s : State) : FramesKept s s.endEvent := by
  unfold State.endEvent
  split
  · have hclear : FramesKept s { s with alertDue := false } := framesKept_of_same rfl rfl rfl rfl
    cases s.params.alertPort with
    | portA | portB => exact hclear.trans (framesKept_offerAlert _ _ _)
    | both => exact (hclear.trans (framesKept_offerAlert _ _ _)).trans (framesKept_offerAlert _ _ _)
  · exact (Keeps.refl s).toFramesKept

/-- An ALERT is owed only while none is queued, and it has at most two copies: so the count stays true and at most 2. -/
theorem alertsCounted_endEvent (s : State) (h : AlertsHeld s) : AlertsCounted s.endEvent := by
  obtain ⟨hcount, hmax, hdue⟩ := h
  unfold State.endEvent
  split
  case isTrue howed =>
    have h0 := hdue howed
    have hone := fun f p => offerAlert_keeps_count { s with alertDue := false } f p hcount
    cases s.params.alertPort with
    | portA | portB =>
      obtain ⟨hc, hle, hd⟩ := hone _ _
      exact ⟨hc, hle.trans (by simp [h0, Config.maxAlerts]), hd⟩
    | both =>
      obtain ⟨hc, hle, hd⟩ := hone _ .a
      obtain ⟨hc', hle', hd'⟩ := offerAlert_keeps_count _ _ .b hc
      refine ⟨hc', hle'.trans ((Nat.succ_le_succ hle).trans ?_), hd'.trans hd⟩
      simp [h0, Config.maxAlerts]
  case isFalse hnone => exact ⟨hcount, hmax, by simpa using hnone⟩

end Sys2Proof.CorridorPorts
end

section
/-! The call slots, the request table, the arbiter, the phase port and the notice unit keep the laws of the queues, the
ports, the lines and the alert count: they write none of these but by counting, raising and queueing a NOTICE. -/

namespace Sys2Proof.CorridorPorts

open Sys2Proof.Machine Sys2Proof.Safety Sys2Proof.Laws

/-! ### Writes outside the ports, the lines and the alert fields -/

theorem keeps_markDue (s : State) : Keeps s s.markDue :=
  keeps_of_same (markDue_portA s) (markDue_portB s) (markDue_lines s) (markDue_params s) (markDue_alertCount s)
    (markDue_alertDue s)

theorem keeps_setRecord (s : State) (r : Fin 24) (x : Option Record) : Keeps s (s.setRecord r x) :=
  keeps_of_same rfl rfl rfl rfl rfl rfl

theorem keeps_setSlot (s : State) (k : Fin 4) (x : CallSlot) : Keeps s (s.setSlot k x) :=
  keeps_of_same rfl rfl rfl rfl rfl rfl

theorem keeps_setSlotTimer (s : State) (k : Fin 4) (t : Option SlotTimer) : Keeps s (s.setSlotTimer k t) :=
  keeps_of_same rfl rfl rfl rfl rfl rfl

theorem keeps_setLockout (s : State) (ap : Fin 8) (t : Option Nat) : Keeps s (s.setLockout ap t) :=
  keeps_of_same rfl rfl rfl rfl rfl rfl

theorem keeps_setController (s : State) (c : Controller) : Keeps s (s.setController c) :=
  keeps_of_same rfl rfl rfl rfl rfl rfl

/-- Two changes in turn, the second the evaluation-due mark. -/
theorem Keeps.marked {s t : State} (h : Keeps s t) : Keeps s t.markDue := h.trans (keeps_markDue t)

/-! ### Call slots and their members -/

theorem keeps_place (s : State) (kind : OutKind) (k : Fin 4) : Keeps s (s.place kind k) :=
  keeps_of_same rfl rfl rfl rfl rfl rfl

theorem keeps_closeSlot (s : State) (k : Fin 4) (cause : CloseCause) : Keeps s (s.closeSlot k cause) := by
  rw [closeSlot_frame]
  exact keeps_of_same rfl rfl rfl rfl rfl rfl

theorem keeps_idleSlot (s : State) (k : Fin 4) : Keeps s (s.idleSlot k) := by
  rw [idleSlot_frame]
  exact keeps_of_same rfl rfl rfl rfl rfl rfl

theorem keeps_returnMember (s : State) (holdOff : Option Nat) (exclude : Option ServiceKind) (r : Fin 24) :
    Keeps s (s.returnMember holdOff exclude r) := by
  unfold State.returnMember
  split
  · exact .refl s
  · exact keeps_ite ((keeps_setRecord s r none).trans (keeps_count _ _)) (keeps_setRecord s r _)

theorem keeps_returnMembers (s : State) (ms : List (Fin 24)) (holdOff : Option Nat) (exclude : Option ServiceKind) :
    Keeps s (s.returnMembers ms holdOff exclude) :=
  keeps_forEach _ (fun r t => keeps_returnMember t holdOff exclude r) ms s

theorem keeps_closeReturning (s : State) (k : Fin 4) (cause : CloseCause) : Keeps s (s.closeReturning k cause) :=
  (keeps_closeSlot s k cause).trans (keeps_returnMembers _ _ _ _)

theorem keeps_idleReturning (s : State) (k : Fin 4) (holdOff : Option Nat) (exclude : Option ServiceKind) :
    Keeps s (s.idleReturning k holdOff exclude) :=
  (keeps_idleSlot s k).trans (keeps_returnMembers _ _ _ _)

theorem keeps_advanceSlot (s : State) (k : Fin 4) (st : SlotState) : Keeps s (s.advanceSlot k st) := by
  refine ((keeps_setSlot s k _).trans (keeps_forEach _ (fun r t => ?_) _ _)).marked
  split
  · exact .refl t
  · exact keeps_setRecord t r _

theorem keeps_takeOut (s : State) (r : Fin 24) (outcome : ApproachCounter) : Keeps s (s.takeOut r outcome) := by
  unfold State.takeOut
  split
  · exact .refl s
  · exact (keeps_setRecord s r none).trans (keeps_count _ _)

theorem keeps_leaveSlot (s : State) (k : Fin 4) (r : Fin 24) (cause : CloseCause) : Keeps s (s.leaveSlot k r cause) :=
  keeps_ite (keeps_closeSlot s k cause) (keeps_setSlot s k _)

theorem keeps_removeRecord (s : State) (r : Fin 24) (outcome : ApproachCounter) (cause : CloseCause) :
    Keeps s (s.removeRecord r outcome cause) := by
  unfold State.removeRecord
  split
  · exact .refl s
  · split
    · exact keeps_takeOut s r outcome
    · exact (keeps_takeOut s r outcome).trans (keeps_leaveSlot _ _ r cause)

/-! ### Evaluation -/

theorem keeps_tryJoin (s : State) (r : Fin 24) : Keeps s (s.tryJoin r) := by
  unfold State.tryJoin
  split
  · exact .refl s
  · split
    · exact .refl s
    · split
      · exact .refl s
      · exact keeps_ite (keeps_of_same rfl rfl rfl rfl rfl rfl) (.refl s)

theorem keeps_openSlot (s : State) (k : Fin 4) (r : Fin 24) (x : Record) (kind : ServiceKind) :
    Keeps s (s.openSlot k r x kind) := by
  unfold State.openSlot
  dsimp only
  refine Keeps.trans (Keeps.marked (Keeps.trans (Keeps.trans ?_ (keeps_setSlotTimer _ k _)) (keeps_count _ _)))
    (keeps_forEach _ (fun q t => keeps_tryJoin t q) _ _)
  exact keeps_of_same rfl rfl rfl rfl rfl rfl

theorem keeps_openNext (s t : State) (h : s.openNext = some t) : Keeps s t := by
  unfold State.openNext at h
  split at h
  · split at h
    · split at h
      · injection h with h
        rw [← h]
        exact keeps_openSlot s _ _ _ _
      · exact nomatch h
    · exact nomatch h
  · exact nomatch h

theorem keeps_opening (rounds : Nat) (s : State) : Keeps s (State.opening rounds s) := by
  induction rounds generalizing s with
  | zero => exact .refl s
  | succ rounds ih =>
    unfold State.opening
    split
    · exact .refl s
    · exact (keeps_openNext s _ ‹_›).trans (ih _)

theorem keeps_preemptSlot (s : State) (k : Fin 4) : Keeps s (s.preemptSlot k) := by
  unfold State.preemptSlot
  split
  · exact keeps_closeReturning s k .preempt
  · exact (keeps_closeReturning s k .preempt).trans (keeps_count _ _)

theorem keeps_evaluate (s : State) : Keeps s s.evaluate :=
  ((keeps_forEach _ (fun r t => keeps_tryJoin t r) _ s).trans (keeps_opening 4 _)).trans
    (keeps_forEach _ (fun k t => keeps_preemptSlot t k) _ _)

/-! ### Notices sent (R163 to R165) -/

theorem keeps_sendNotice (s : State) (ap : Fin 8) (vehicle route : Nat) (direction : Bool) (late : Option Int) :
    Keeps s (s.sendNotice ap vehicle route direction late) := by
  unfold State.sendNotice
  dsimp only
  split
  · exact .refl s
  · exact keeps_ite ((keeps_enqueue s _ _).trans (keeps_count _ _)) (keeps_count_raise s _ _)

/-! ### The request table -/

theorem keeps_dropFull (s : State) : Keeps s s.dropFull := keeps_count_raise s _ _

theorem keeps_createIn (s : State) (r : Fin 24) (x : Record) : Keeps s (s.createIn r x) :=
  (keeps_setRecord s r (some x)).marked

theorem keeps_createOrDisplace (s : State) (x : Record) : Keeps s (s.createOrDisplace x) := by
  unfold State.createOrDisplace
  split
  · exact keeps_createIn s _ x
  · split
    · exact (keeps_takeOut s _ _).trans (keeps_createIn _ _ x)
    · exact keeps_dropFull s

theorem keeps_checkInNew (s : State) (rep : Report) (ap : Fin 8) : Keeps s (s.checkInNew rep ap) := by
  unfold State.checkInNew
  split
  · exact keeps_count s _
  · exact keeps_createOrDisplace s _

theorem keeps_checkInFound (s : State) (rep : Report) (ap : Fin 8) (r : Fin 24) (x : Record) :
    Keeps s (s.checkInFound rep ap r x) := by
  unfold State.checkInFound
  split
  · split
    · exact keeps_takeOut s r _
    · exact (keeps_setRecord s r _).marked
  · exact keeps_setRecord s r _

theorem keeps_takeCheckIn (s : State) (rep : Report) (ap : Fin 8) : Keeps s (s.takeCheckIn rep ap) := by
  unfold State.takeCheckIn
  dsimp only
  refine (keeps_count s (.approach ap .checkIns)).trans ?_
  split
  · exact keeps_checkInNew _ rep ap
  · refine keeps_ite (.refl _) ?_
    split
    · exact .refl _
    · exact keeps_checkInFound _ rep ap _ _

theorem keeps_removeCheckedOut (s : State) (vehicle : Nat) : Keeps s (s.removeCheckedOut vehicle) := by
  unfold State.removeCheckedOut
  split
  · exact .refl s
  · split
    · exact .refl s
    · exact keeps_removeRecord s _ _ _

theorem keeps_takeCheckOut (s : State) (rep : Report) (ap : Fin 8) : Keeps s (s.takeCheckOut rep ap) :=
  ((keeps_count s (.approach ap .checkOuts)).trans (keeps_removeCheckedOut _ rep.vehicle)).trans
    (keeps_ite (.refl _) (keeps_sendNotice _ ap _ _ _ _))

theorem keeps_takeCancel (s : State) (rep : Report) : Keeps s (s.takeCancel rep) := by
  refine keeps_ite (.refl s) ?_
  split
  · exact .refl s
  · exact keeps_removeRecord s _ _ _

theorem keeps_noticeNew (s : State) (n : NoticeArrival) (ap : Fin 8) : Keeps s (s.noticeNew n ap) := by
  unfold State.noticeNew
  split
  · exact keeps_count s _
  · split
    · exact keeps_dropFull s
    · exact keeps_createIn s _ _

theorem keeps_takeNotice (s : State) (n : NoticeArrival) (ap : Fin 8) : Keeps s (s.takeNotice n ap) := by
  unfold State.takeNotice
  dsimp only
  refine (keeps_count s (.approach ap .noticesIn)).trans ?_
  split
  · exact keeps_noticeNew _ n ap
  · split
    · exact .refl _
    · exact keeps_ite (keeps_setRecord _ _ _).marked (keeps_count _ _)

theorem keeps_noticeFrameTaken (s : State) (f : LinkFrame) : Keeps s (s.noticeFrameTaken f) := by
  refine keeps_ite ?_ (.refl s)
  split
  · exact keeps_count s _
  · split
    · exact keeps_count s _
    · exact keeps_takeNotice s _ _

/-! ### The phase port -/

theorem keeps_messageDone (s : State) : Keeps s s.messageDone := keeps_of_same rfl rfl rfl rfl rfl rfl

theorem keeps_validMessage (s : State) : Keeps s s.validMessage :=
  (keeps_messageDone s).trans (keeps_ite (keeps_setController _ _).marked (keeps_setController _ _))

theorem keeps_stray (s : State) : Keeps s s.stray := keeps_count s _

theorem keeps_countOnSlot (s : State) (k : Fin 4) (c : ApproachCounter) : Keeps s (s.countOnSlot k c) := by
  unfold State.countOnSlot
  split
  · exact .refl s
  · exact keeps_count s _

theorem keeps_acceptFor (s : State) (k : Fin 4) : Keeps s (s.acceptFor k) := by
  unfold State.acceptFor
  split
  case h_1 => exact ((keeps_countOnSlot s k _).trans (keeps_setSlotTimer _ k _)).trans (keeps_advanceSlot _ k _)
  all_goals exact keeps_stray s

theorem keeps_beginService (s : State) (k : Fin 4) : Keeps s (s.beginService k) :=
  (keeps_setSlotTimer s k _).trans (keeps_advanceSlot _ k _)

theorem keeps_startFor (s : State) (k : Fin 4) : Keeps s (s.startFor k) := by
  unfold State.startFor
  split
  case h_1 => exact (keeps_countOnSlot s k _).trans (keeps_beginService _ k)
  case h_2 => exact keeps_beginService s k
  all_goals exact keeps_stray s

theorem keeps_denySlot (s : State) (k : Fin 4) (reason : DenyReason) : Keeps s (s.denySlot k reason) :=
  (keeps_countOnSlot s k _).trans (keeps_idleReturning _ k _ _)

theorem keeps_denyFor (s : State) (k : Fin 4) (reason : DenyReason) : Keeps s (s.denyFor k reason) := by
  unfold State.denyFor
  split
  case h_1 | h_2 => exact keeps_denySlot s k reason
  all_goals exact keeps_stray s

theorem keeps_endServing (s : State) (k : Fin 4) (reason : EndReason) : Keeps s (s.endServing k reason) := by
  unfold State.endServing
  dsimp only
  have hidle (y : CallSlot) : Keeps s ((s.setSlot k y).idleReturning k none none) :=
    (keeps_setSlot s k y).trans (keeps_idleReturning _ k none none)
  split
  · exact hidle _
  · exact (hidle _).trans (keeps_raise _ _)
  · exact (hidle _).trans (keeps_count_raise _ _ _)

theorem keeps_endFor (s : State) (k : Fin 4) (reason : EndReason) : Keeps s (s.endFor k reason) := by
  unfold State.endFor
  split
  case h_1 | h_2 => exact keeps_denySlot s k _
  case h_3 => exact keeps_endServing s k reason
  case h_4 => exact keeps_idleSlot s k
  case h_5 => exact keeps_stray s

/-- A slot message keeps what its action on a slot keeps. -/
theorem keeps_forCall (s : State) (n : Nat) (act : Fin 4 → State → State) (hact : ∀ k t, Keeps t (act k t)) :
    Keeps s (s.validMessage.forCall n act) := by
  refine (keeps_validMessage s).trans ?_
  unfold State.forCall
  split
  · exact keeps_stray _
  · exact hact _ _

theorem keeps_responseMissed (s : State) : Keeps s s.responseMissed := by
  refine (keeps_count s _).trans ((keeps_setController _ _).trans (keeps_ite ?_ (.refl _)))
  exact ((keeps_setController _ _).trans (keeps_count_raise _ _ _)).marked

end Sys2Proof.CorridorPorts
end

section
/-! The receive and the transmit side of the corridor ports, their timers and the port actions keep the laws of the queues,
the ports, the lines and the alert count (R17 to R40). -/

namespace Sys2Proof.CorridorPorts

open Sys2Proof.Machine Sys2Proof.Safety Sys2Proof.Laws Sys2Proof.LineFormats

/-! ### The marks of R37 by port state -/

/-- Marks stand in DRAINING alone, where they tell what is under way; a DISABLED port sends nothing. -/
theorem marksFit_iff (x : PortState) :
    marksFit x ↔ (x.mode ≠ .draining → x.rxMarked = false ∧ x.txMarked = false) ∧
      (x.mode = .draining → x.txMarked = x.sending.isSome ∧ (x.rxMarked = true → x.receiver.inProgress = true)) ∧
      (x.mode = .disabled → x.sending = none) := by
  unfold marksFit
  cases x.mode <;> simp [and_assoc]

/-! ### Receiving -/

theorem keeps_consume (s : State) (p : Port) (f : LinkFrame) : Keeps s (s.consume p f) :=
  keeps_ite (keeps_of_same rfl rfl rfl rfl rfl rfl) (keeps_count_raise s _ _)

theorem keeps_relay (s : State) (p : Port) (f : LinkFrame) : Keeps s (s.relay p f) :=
  keeps_ite (keeps_count s _)
    (keeps_ite (keeps_count s _) (keeps_ite (keeps_enqueue s _ _) (keeps_count_raise s _ _)))

theorem keeps_route (s : State) (p : Port) (f : LinkFrame) : Keeps s (s.route p f) :=
  keeps_ite (keeps_consume s p f) (keeps_ite ((keeps_consume s p f).trans (keeps_relay _ p f)) (keeps_relay s p f))

theorem keeps_takeHold (s : State) (p : Port) : Keeps s (s.takeHold p) :=
  (keeps_count s _).trans
    (keeps_setPort _ p _ rfl fun ⟨hhead, hmarks, _, htimers⟩ => ⟨hhead, hmarks, rfl, htimers⟩)

theorem keeps_takeResume (s : State) (p : Port) : Keeps s (s.takeResume p) :=
  keeps_ite (keeps_setPort s p _ rfl fun ⟨hhead, hmarks, _, htimers⟩ => ⟨hhead, hmarks, rfl, htimers⟩) (.refl s)

/-- A valid frame restarts the silence timer of an ENABLED port alone. -/
theorem keeps_heardFrame (s : State) (p : Port) : Keeps s (s.heardFrame p) := by
  refine (keeps_count s _).trans (keeps_setPort _ p _ rfl ?_)
  rintro ⟨hhead, hmarks, hheld, hholding, hfill, hsilence, _⟩
  exact ⟨hhead, hmarks, hheld, hholding, hfill, fun hm => (if_neg hm).trans (hsilence hm),
    fun hm hstop => nomatch (if_pos hm).symm.trans hstop⟩

theorem keeps_dealByKind (s : State) (p : Port) (f : LinkFrame) : Keeps s (s.dealByKind p f) :=
  keeps_ite (.refl s) (keeps_ite (keeps_takeHold s p) (keeps_ite (keeps_takeResume s p) (keeps_route s p f)))

theorem keeps_takeFrame (s : State) (p : Port) (res : RxResult) : Keeps s (s.takeFrame p res) := by
  cases res with
  | valid f => exact (keeps_heardFrame s p).trans (keeps_dealByKind _ p f)
  | crcError | lengthError => exact keeps_count_raise s _ _

/-- The receiver may be replaced unless a marked frame is in progress in it. -/
theorem keeps_setReceiver (s : State) (p : Port) (r : Receiver)
    (hfree : PortLaw (s.port p) → (s.port p).mode = .draining → (s.port p).rxMarked = false) :
    Keeps s (s.setReceiver p r) := by
  refine keeps_setPort s p _ rfl fun hlaw => ?_
  have hunmarked := hfree hlaw
  obtain ⟨hhead, hmarks, htimers⟩ := hlaw
  obtain ⟨hclear, hdrain, hoff⟩ := (marksFit_iff _).mp hmarks
  exact ⟨hhead, (marksFit_iff _).mpr
    ⟨hclear, fun hm => ⟨(hdrain hm).1, fun h => nomatch (hunmarked hm).symm.trans h⟩, hoff⟩, htimers⟩

/-- A receiver with no frame in progress holds no marked frame. -/
theorem rxMarked_of_not_inProgress {x : PortState} (hrx : x.receiver.inProgress = false) (hlaw : PortLaw x)
    (hm : x.mode = .draining) : x.rxMarked = false := by
  obtain ⟨_, hmarks, _⟩ := hlaw
  obtain ⟨_, hdrain, _⟩ := (marksFit_iff x).mp hmarks
  exact Bool.eq_false_iff.mpr fun h => nomatch hrx.symm.trans ((hdrain hm).2 h)

/-- The marked frame of a DRAINING port ends: its mark goes with it (R38). -/
theorem keeps_unmark (s : State) (p : Port) (r : Receiver) (hm : (s.port p).mode = .draining) :
    Keeps s (s.setPort p { s.port p with receiver := r, rxMarked := false }) := by
  refine keeps_setPort s p _ rfl ?_
  rintro ⟨hhead, hmarks, htimers⟩
  obtain ⟨_, hdrain, _⟩ := (marksFit_iff _).mp hmarks
  exact ⟨hhead, (marksFit_iff _).mpr
    ⟨fun hno => absurd hm hno, fun _ => ⟨(hdrain hm).1, nofun⟩, fun hoff => nomatch hm.symm.trans hoff⟩, htimers⟩

/-- A frame that ends leaves its receiver and its mark together, and is then taken or counted (R18, R38). -/
theorem keeps_frameResult (s : State) (p : Port) (r : Receiver) (res : RxResult) :
    Keeps s ((s.setReceiver p r).frameResult p res) := by
  have hreceived (h : (s.port p).mode = .draining → (s.port p).rxMarked = false) :
      Keeps s (s.setPort p { s.port p with receiver := r }) := keeps_setReceiver s p r fun _ => h
  unfold State.frameResult State.setReceiver
  simp only [port_setPort_same, setPort_setPort]
  split
  case h_1 hm => exact (hreceived fun h => nomatch hm.symm.trans h).trans (keeps_takeFrame _ p res)
  case h_2 hm =>
    split
    case isTrue => exact (keeps_unmark s p r hm).trans (keeps_takeFrame _ p res)
    case isFalse hrx => exact (hreceived fun _ => Bool.eq_false_iff.mpr hrx).trans (keeps_count _ _)
  case h_3 hm => exact (hreceived fun h => nomatch hm.symm.trans h).trans (keeps_count _ _)

/-! ### Sending -/

/-- An ENABLED port may start any frame, one of origin queue only when it is the queue's head. -/
theorem keeps_start (s : State) (p : Port) (y : Sending) (c : Option ControlFrame)
    (henabled : (s.port p).mode = .enabled)
    (hhead : y.origin = .queue → (s.port p).queue.head?.map (fun f => f.frame) = some y.frame) :
    Keeps s (s.setPort p { s.port p with pendingControl := c, sending := some y }) := by
  refine keeps_setPort s p _ rfl ?_
  rintro ⟨_, hmarks, htimers⟩
  obtain ⟨hclear, _, _⟩ := (marksFit_iff _).mp hmarks
  refine ⟨?_, (marksFit_iff _).mpr ⟨hclear, fun hm => absurd (henabled.symm.trans hm) nofun,
    fun hm => absurd (henabled.symm.trans hm) nofun⟩, htimers⟩
  rintro z hz horigin
  obtain rfl : y = z := by simpa using hz
  exact hhead horigin

/-- The port sends from the queue only its head. -/
theorem head_of_choice_queued (x : PortState) (f : QueuedFrame) (h : x.choice = .queued f) : x.queue.head? = some f := by
  unfold PortState.choice at h
  split at h
  · exact nomatch h
  · split at h <;> exact nomatch h
  · rename_i hqueue
    split at h
    · split at h <;> exact nomatch h
    · injection h with h
      rw [hqueue, h]
      rfl

theorem keeps_startFill (s : State) (p : Port) (henabled : (s.port p).mode = .enabled) : Keeps s (s.startFill p) :=
  keeps_start s p _ (s.port p).pendingControl henabled nofun

theorem keeps_startChosen (s t : State) (p : Port) (henabled : (s.port p).mode = .enabled)
    (h : s.startChosen p (s.port p).choice = some t) : Keeps s t := by
  cases hc : (s.port p).choice with
  | control c =>
    obtain rfl : s.startControl p c = t := by simpa [hc, State.startChosen] using h
    have hstart := keeps_start s p ⟨.control c, s.controlFrame c⟩ none henabled nofun
    cases c with
    | hold => exact hstart.trans (keeps_count _ _)
    | resume => exact hstart
  | queued f =>
    obtain rfl : s.startQueued p f = t := by simpa [hc, State.startChosen] using h
    exact keeps_start s p _ (s.port p).pendingControl henabled fun _ => by simp [head_of_choice_queued _ f hc]
  | fill =>
    obtain rfl : s.startFill p = t := by simpa [hc, State.startChosen] using h
    exact keeps_startFill s p henabled
  | nothing => simp [hc, State.startChosen] at h

theorem keeps_freeLine (s : State) (p : Port) : Keeps s (s.freeLine p) := by
  refine keeps_setPort s p _ rfl ?_
  rintro ⟨_, hmarks, hheld, hholding, hfill, hsilence⟩
  obtain ⟨hclear, hdrain, _⟩ := (marksFit_iff _).mp hmarks
  refine ⟨nofun, (marksFit_iff _).mpr ⟨fun hm => ⟨(hclear hm).1, rfl⟩, fun hm => ⟨rfl, (hdrain hm).2⟩, fun _ => rfl⟩,
    hheld, hholding, ?_, hsilence⟩
  dsimp only
  split
  case isTrue hm => simp [hm]
  case isFalse => exact hfill

/-- A shorter queue on a free line keeps what holds of the frames. -/
theorem framesKept_setQueue_of_free (s : State) (p : Port) (q : List QueuedFrame)
    (hfree : PortLaw (s.port p) → (s.port p).sending = none) (hless : usedUnits q ≤ usedUnits (s.port p).queue) :
    FramesKept s (s.setQueue p q) := by
  refine framesKept_setQueue s p q (fun h => hless.trans (((queuesFit_iff s).mp h).2 p)) fun hlaw => ?_
  obtain ⟨_, hrest⟩ := hlaw
  refine ⟨fun y hy => ?_, hrest⟩
  have hnone := hfree ⟨‹_›, hrest⟩
  exact nomatch hnone.symm.trans hy

/-- The head leaves with its units, and with its place in the alert count (R29, R199). -/
theorem keeps_dropSent (s : State) (p : Port) (hfree : (s.port p).sending = none) : Keeps s (s.dropSent p) := by
  cases hq : (s.port p).queue with
  | nil => simpa only [State.dropSent, hq] using Keeps.refl s
  | cons f rest =>
    rw [dropSent_of_head s p f rest hq]
    have hkept : FramesKept s (s.setQueue p rest) :=
      framesKept_setQueue_of_free s p rest (fun _ => hfree) (by simp [hq, usedUnits])
    have halerts : alertsQueued s = (if f.ownAlert then 1 else 0) + alertsQueued (s.setQueue p rest) := by
      rw [alertsQueued_setQueue, alertsQueued_eq s p, hq, ownAlerts_cons, Nat.add_assoc]
    have hcount := setQueue_alertCount s p rest
    have hdue := setQueue_alertDue s p rest
    split
    case isTrue hf =>
      refine ⟨hkept.trans (framesKept_of_same rfl rfl rfl rfl), fun ⟨hc, hmax, howed⟩ => ?_⟩
      rw [if_pos hf, hc.symm] at halerts
      refine ⟨?_, ?_, fun h => ?_⟩
      · change (s.setQueue p rest).alertCount - 1 = alertsQueued (s.setQueue p rest)
        rw [hcount, halerts]
        exact Nat.add_sub_cancel_left ..
      · exact (Nat.sub_le _ 1).trans (hcount.le.trans hmax)
      · have h0 : s.alertCount = 0 := howed (hdue.symm.trans h)
        exact Nat.eq_zero_of_le_zero ((Nat.sub_le _ 1).trans (hcount.trans h0).le)
    case isFalse hf =>
      refine ⟨hkept, fun h => ?_⟩
      have hsame : alertsQueued (s.setQueue p rest) = alertsQueued s := by
        rw [halerts, if_neg hf, Nat.zero_add]
      simpa only [AlertsHeld, hcount, hdue, hsame] using h

theorem keeps_frameTxEnd (s : State) (p : Port) :
    Keeps s (((s.count (.port p .txFrames)).freeLine p).dropSent p) :=
  ((keeps_count s _).trans (keeps_freeLine _ p)).trans (keeps_dropSent _ p (by simp [State.freeLine]))

/-! ### Port timers -/

theorem keeps_fillTimer (s : State) (p : Port) (n : Nat) (henabled : (s.port p).mode = .enabled) :
    Keeps s (s.setPort p { s.port p with fillTimer := some n }) :=
  keeps_setPort s p _ rfl fun ⟨hhead, hmarks, hheld, hholding, _, hsilence⟩ =>
    ⟨hhead, hmarks, hheld, hholding, by simp [henabled], hsilence⟩

theorem keeps_holdEnds (s : State) (p : Port) :
    Keeps s (s.setPort p { s.port p with held := false, holdTimer := none }) :=
  keeps_setPort s p _ rfl fun ⟨hhead, hmarks, _, htimers⟩ => ⟨hhead, hmarks, rfl, htimers⟩

theorem keeps_holdRepeat (s : State) (p : Port) (n : Nat) (c : Option ControlFrame)
    (hrun : (s.port p).holdRepeat.isSome = true) :
    Keeps s (s.setPort p { s.port p with holdRepeat := some n, pendingControl := c }) :=
  keeps_setPort s p _ rfl fun ⟨hhead, hmarks, hheld, hholding, htimers⟩ =>
    ⟨hhead, hmarks, hheld, hrun.symm.trans hholding, htimers⟩

/-- A port that falls SILENT holds no longer: a hold timer runs only on a held port. -/
theorem keeps_silence (s : State) (p : Port) :
    Keeps s (s.setPort p
      { s.port p with
        silent := true
        silenceTimer := none
        held := false
        holdTimer := if (s.port p).held then none else (s.port p).holdTimer }) := by
  refine keeps_setPort s p _ rfl ?_
  rintro ⟨hhead, hmarks, hheld, hholding, hfill, _⟩
  refine ⟨hhead, hmarks, ?_, hholding, hfill, fun _ => rfl, fun _ _ => rfl⟩
  dsimp only
  split
  case isTrue => rfl
  case isFalse hno => exact hheld.trans (by simpa using hno)

theorem keeps_drained (s : State) (p : Port) (hm : (s.port p).mode = .draining) (hrx : (s.port p).rxMarked = false)
    (htx : (s.port p).txMarked = false) : Keeps s (s.setPort p { s.port p with mode := .disabled }) := by
  refine keeps_setPort s p _ rfl ?_
  rintro ⟨hhead, hmarks, hheld, hholding, hfill, hsilence, _⟩
  obtain ⟨_, hdrain, _⟩ := (marksFit_iff _).mp hmarks
  have hfree : (s.port p).sending = none := by simpa [htx] using (hdrain hm).1.symm
  exact ⟨hhead, ⟨hrx, htx, hfree⟩, hheld, hholding, hfill.trans (by simp [hm]), fun _ => hsilence (by simp [hm]), nofun⟩

/-! ### Port actions -/

theorem keeps_disablePort (s : State) (p : Port) : Keeps s (s.disablePort p).1 := by
  unfold State.disablePort
  dsimp only
  split
  case isFalse => exact .refl s
  case isTrue =>
    refine keeps_setPort s p _ rfl ?_
    rintro ⟨hhead, _, hheld, hholding, _⟩
    refine ⟨hhead, ?_, hheld, hholding, ?_, fun _ => rfl, ?_⟩
    · cases hrx : (s.port p).receiver.inProgress <;> cases (s.port p).sending <;> simp [marksFit, hrx]
    · cases (s.port p).receiver.inProgress <;> cases (s.port p).sending.isSome <;> rfl
    · cases (s.port p).receiver.inProgress <;> cases (s.port p).sending.isSome <;> exact nofun

theorem keeps_enablePort (s : State) (p : Port) : Keeps s (s.enablePort p).1 := by
  unfold State.enablePort
  dsimp only
  split
  · exact .refl s
  · refine Keeps.trans ?_ (keeps_evalFlow _ p)
    refine keeps_setPort s p _ rfl ?_
    rintro ⟨hhead, _, hheld, hholding, _⟩
    exact ⟨hhead, ⟨rfl, rfl⟩, hheld, hholding, rfl, fun hm => absurd rfl hm, nofun⟩

/-- What the frames of a flushed queue do to a state: only counting, and the alert count falls by this engine's ALERTs. -/
theorem flushed_fields (p : Port) (q : List QueuedFrame) (s : State) :
    let t := forEach q (fun f u => u.flushFrame p f) s
    t.portA = s.portA ∧ t.portB = s.portB ∧ t.lines = s.lines ∧ t.params = s.params ∧
      t.alertCount = s.alertCount - ownAlerts q := by
  induction q generalizing s with
  | nil => exact ⟨rfl, rfl, rfl, rfl, rfl⟩
  | cons f rest ih =>
    obtain ⟨ha, hb, hl, hp, hc⟩ := ih (s.flushFrame p f)
    have hstep : (s.flushFrame p f).portA = s.portA ∧ (s.flushFrame p f).portB = s.portB ∧
        (s.flushFrame p f).lines = s.lines ∧ (s.flushFrame p f).params = s.params ∧
        (s.flushFrame p f).alertCount = s.alertCount - if f.ownAlert then 1 else 0 := by
      cases hf : f.ownAlert <;> simp [State.flushFrame, State.alertGone, hf]
    obtain ⟨ha', hb', hl', hp', hc'⟩ := hstep
    refine ⟨ha.trans ha', hb.trans hb', hl.trans hl', hp.trans hp', ?_⟩
    rw [forEach_cons, hc, hc', ownAlerts_cons, Nat.sub_sub]

/-- While frames are flushed an ALERT becomes owed only when none is counted any more. -/
theorem flushed_owed (p : Port) (q : List QueuedFrame) (s : State) (h : s.alertDue = true → s.alertCount = 0) :
    (forEach q (fun f u => u.flushFrame p f) s).alertDue = true →
      (forEach q (fun f u => u.flushFrame p f) s).alertCount = 0 := by
  induction q generalizing s with
  | nil => exact h
  | cons f rest ih =>
    have hcount := count_owed s (.port p .flushed) h
    refine ih (s.flushFrame p f) ?_
    unfold State.flushFrame
    cases f.ownAlert with
    | false => exact hcount
    | true => exact fun hdue => congrArg (· - 1) (hcount hdue)

/-- A port whose flags, pending frame and hold timers are cleared (R40). -/
def cleared (x : PortState) : PortState :=
  { x with held := false, holding := false, silent := false, pendingControl := none, holdTimer := none
           holdRepeat := none }

theorem portLaw_cleared {x : PortState} (hm : x.mode = .disabled) (h : PortLaw x) : PortLaw (cleared x) := by
  obtain ⟨hhead, hmarks, _, _, hfill, hsilence, _⟩ := h
  exact ⟨hhead, hmarks, rfl, rfl, hfill, hsilence, fun hon => absurd (hm.symm.trans hon) nofun⟩

theorem resetPort_disabled (s : State) (p : Port) (hm : (s.port p).mode = .disabled) :
    s.resetPort p =
      (let t := forEach (s.port p).queue (fun f u => u.flushFrame p f) s
       ((t.setPort p (cleared (t.port p))).setQueue p [], .done)) := if_pos hm

theorem keeps_resetPort (s : State) (p : Port) : Keeps s (s.resetPort p).1 := by
  by_cases hm : (s.port p).mode = .disabled
  case neg => rw [State.resetPort, if_neg hm]; exact .refl s
  case pos =>
    rw [resetPort_disabled s p hm]
    obtain ⟨ha, hb, hl, hp, hc⟩ := flushed_fields p (s.port p).queue s
    have howed := flushed_owed p (s.port p).queue s
    generalize forEach (s.port p).queue (fun f u => u.flushFrame p f) s = t at ha hb hl hp hc howed ⊢
    have hport : ∀ q, t.port q = s.port q := port_cases .a ha hb
    have hoff : (t.port p).mode = .disabled := by rw [hport, hm]
    have hclear : Keeps t (t.setPort p (cleared (t.port p))) := keeps_setPort t p _ rfl (portLaw_cleared hoff)
    have hempty : FramesKept (t.setPort p (cleared (t.port p))) ((t.setPort p (cleared (t.port p))).setQueue p []) := by
      refine framesKept_setQueue_of_free _ p [] (fun hlaw => ?_) (Nat.zero_le _)
      rw [port_setPort_same] at hlaw ⊢
      obtain ⟨_, hmarks, _⟩ := hlaw
      exact ((marksFit_iff _).mp hmarks).2.2 hoff
    refine ⟨((framesKept_of_same ha hb hl hp).trans hclear.toFramesKept).trans hempty, fun ⟨hcount, hmax, hdue⟩ => ?_⟩
    have hleft : s.alertCount - ownAlerts (s.port p).queue = ownAlerts (s.port p.other).queue := by
      rw [hcount, alertsQueued_eq s p, Nat.add_sub_cancel_left]
    refine ⟨?_, ?_, ?_⟩
    · rw [setQueue_alertCount, setPort_alertCount, alertsQueued_setQueue, port_setPort_other, hport, hc, hleft]
      exact (Nat.zero_add _).symm
    · rw [setQueue_alertCount, setPort_alertCount, hc]
      exact (Nat.sub_le _ _).trans hmax
    · simpa using howed hdue

end Sys2Proof.CorridorPorts
end

section
/-! The beacon lines and the report engine keep the laws of the queues, the ports, the lines and the alert count (R41 to
R59). -/

namespace Sys2Proof.CorridorPorts

open Sys2Proof.Machine Sys2Proof.Safety Sys2Proof.Laws Sys2Proof.LineFormats

@[simp] theorem line_count (s : State) (ref : CounterRef) (l : Fin 8) : (s.count ref).line l = s.line l := by
  simp [State.line]

@[simp] theorem line_raise (s : State) (c : Condition) (l : Fin 8) : (s.raise c).line l = s.line l := by
  simp [State.line]

/-! ### A line replaced -/

/-- What holds of line `l`: its law, and a report in its buffer is its own. -/
def LineHeld (l : Fin 8) (x : LineState) : Prop := LineLaw x ∧ ∀ rep ∈ x.buffer, rep.line = l

theorem streak_of_enabled {x : LineState} (h : LineLaw x) (hm : x.mode = .enabled) :
    x.streak < Config.quarantineStreak := by
  simpa only [LineLaw, hm] using h

theorem lineLaw_of_enabled {x : LineState} (hm : x.mode = .enabled) (h : x.streak < Config.quarantineStreak) :
    LineLaw x := by
  simpa only [LineLaw, hm] using h

theorem collect_of_draining {x : LineState} (h : LineLaw x) (hm : x.mode = .draining) :
    x.streak < Config.quarantineStreak ∧ ∃ chars p f, x.assembler = .collect chars p f := by
  simpa only [LineLaw, hm] using h

theorem lineLaw_of_draining {x : LineState} (hm : x.mode = .draining) (h : x.streak < Config.quarantineStreak)
    (ha : ∃ chars p f, x.assembler = .collect chars p f) : LineLaw x := by
  simpa only [LineLaw, hm] using And.intro h ha

theorem keeps_setLine (s : State) (l : Fin 8) (x : LineState) (h : LineHeld l (s.line l) → LineHeld l x) :
    Keeps s (s.setLine l x) := by
  refine ⟨⟨id, id, fun hlines j => ?_⟩, id⟩
  rw [line_setLine]
  split
  case isTrue hj => subst hj; exact h (hlines j)
  case isFalse => exact hlines j

/-- A line without a report in DISABLED. -/
theorem keeps_enterDisabled (s : State) (l : Fin 8) : Keeps s (s.enterDisabled l) :=
  keeps_setLine s l _ fun _ => ⟨⟨rfl, rfl, rfl⟩, nofun⟩

/-- The assembler of an ENABLED line may stand anywhere. -/
theorem keeps_setAssembler (s : State) (l : Fin 8) (a : Assembler) (hm : (s.line l).mode = .enabled) :
    Keeps s (s.setLine l { s.line l with assembler := a }) := by
  refine keeps_setLine s l _ ?_
  rintro ⟨hlaw, hown⟩
  have hstreak := streak_of_enabled hlaw hm
  exact ⟨lineLaw_of_enabled hm hstreak, hown⟩

/-! ### Reports dealt with -/

/-- The report a class carries is one of line `l`. -/
def ClassOf (l : Fin 8) : ReportClass → Prop
  | .framing => True
  | .checksum => True
  | .parity rep => rep.line = l
  | .clean rep => rep.line = l

theorem classOf_judge (l : Fin 8) (raw : RawReport) : ClassOf l (judge l raw) := by
  unfold judge
  split
  · trivial
  · split
    · trivial
    · rename_i rep hread
      have hown : rep.line = l := by
        unfold readReport at hread
        split at hread
        · exact nomatch hread
        · dsimp only at hread
          split at hread
          · injection hread with hread
            rw [← hread]
          · exact nomatch hread
      split <;> exact hown

/-- A fault on an ENABLED line below the quarantine streak leaves it below, or quarantines it (R49). -/
theorem keeps_faulted (s : State) (l : Fin 8) (hm : (s.line l).mode = .enabled) : Keeps s (s.faulted l) := by
  refine (keeps_raise s .beaconFault).trans ?_
  unfold State.faulted
  dsimp only
  split
  case isTrue => exact keeps_setLine _ l _ fun _ => ⟨⟨rfl, rfl, rfl⟩, nofun⟩
  case isFalse hstreak =>
    refine keeps_setLine _ l _ ?_
    rintro ⟨_, hown⟩
    exact ⟨lineLaw_of_enabled (by rwa [line_raise]) (Nat.lt_of_not_le hstreak), hown⟩

theorem keeps_offerReport (s : State) (l : Fin 8) (rep : Report) (hm : (s.line l).mode = .enabled)
    (hown : rep.line = l) : Keeps s (s.offerReport l rep) := by
  refine keeps_ite (keeps_setLine s l _ ?_) (keeps_count_raise s _ _)
  rintro ⟨hlaw, _⟩
  have hstreak := streak_of_enabled hlaw hm
  refine ⟨lineLaw_of_enabled hm hstreak, fun y hy => ?_⟩
  obtain rfl : rep = y := by simpa using hy
  exact hown

theorem keeps_dealReport (s : State) (l : Fin 8) (c : ReportClass) (hm : (s.line l).mode = .enabled)
    (hc : ClassOf l c) : Keeps s (s.dealReport l c) := by
  have hcount (ref : CounterRef) : ((s.count ref).line l).mode = .enabled := by rw [line_count, hm]
  cases c with
  | framing | checksum => exact (keeps_count s _).trans (keeps_faulted _ l (hcount _))
  | parity rep =>
    have hoffer := keeps_offerReport _ l rep (hcount (.beacon l .parityErr)) hc
    exact (keeps_count s _).trans
      (keeps_ite (keeps_ite (hoffer.trans (keeps_count _ _)) hoffer) (keeps_faulted _ l (hcount _)))
  | clean rep =>
    refine Keeps.trans (keeps_setLine s l _ ?_) (keeps_offerReport _ l rep (by simp [hm]) hc)
    rintro ⟨_, hown⟩
    exact ⟨lineLaw_of_enabled hm (Nat.zero_lt_succ 7), hown⟩

theorem keeps_drainReport (s : State) (l : Fin 8) (c : ReportClass) : Keeps s (s.drainReport l c) := by
  refine Keeps.trans ?_ (keeps_enterDisabled _ l)
  cases c with
  | framing | checksum => exact keeps_count_raise s _ _
  | parity rep => exact (keeps_count s _).trans (keeps_ite (.refl _) (keeps_raise _ _))
  | clean rep => exact .refl s

/-- The drain of a line does not read what it stood at. -/
theorem drainReport_setLine (s : State) (l : Fin 8) (x : LineState) (c : ReportClass) :
    (s.setLine l x).drainReport l c = s.drainReport l c := by
  have hcount : (s.setLine l x).drainCount l c = (s.drainCount l c).setLine l x := by
    cases c with
    | framing | checksum => simp only [State.drainCount, count_setLine, raise_setLine]
    | parity rep =>
      simp only [State.drainCount, count_setLine, raise_setLine]
      exact (apply_ite (fun t : State => t.setLine l x) _ _ _).symm
    | clean rep => rfl
  rw [State.drainReport, State.enterDisabled, hcount, setLine_setLine]
  rfl

theorem keeps_reportEnded (s : State) (l : Fin 8) (c : ReportClass) (hc : ClassOf l c) :
    Keeps s (s.reportEnded l c) := by
  cases hm : (s.line l).mode with
  | enabled =>
    rw [reportEnded_enabled s l c hm]
    exact (keeps_setAssembler s l .seek hm).trans (keeps_dealReport _ l c (by simp [hm]) hc)
  | draining =>
    rw [reportEnded_draining s l c hm, drainReport_setLine]
    exact keeps_drainReport s l c
  | disabled | quarantined => simpa only [State.reportEnded, hm] using Keeps.refl s

/-! ### Characters on a line -/

/-- Characters that do not end a report in assembly leave it in assembly. -/
theorem collect_of_going (parity : Parity) (chars : List BeaconChar) (got : List Byte) (p f : Bool) (a : Assembler)
    (h : runChars (Assembler.char parity) (.collect got p f) chars = .going a) :
    ∃ got' p' f', a = .collect got' p' f' := by
  induction chars generalizing got p f with
  | nil =>
    injection h with h
    exact ⟨got, p, f, h.symm⟩
  | cons c rest ih =>
    unfold runChars Assembler.char at h
    dsimp only at h
    split at h
    case h_1 hstep =>
      split at hstep
      · injection hstep with hstep
        exact ih _ _ _ (hstep ▸ h)
      · exact nomatch hstep
    case h_2 => split at h <;> exact nomatch h

/-- Stored characters keep the law of a line: a DRAINING line stays in assembly. -/
theorem keeps_lineStored (s : State) (l : Fin 8) (chars : List BeaconChar) (a : Assembler)
    (h : s.lineRun l chars = some (.going a)) : Keeps s (s.setLine l { s.line l with assembler := a }) := by
  unfold State.lineRun at h
  split at h
  case isFalse => exact nomatch h
  case isTrue hm =>
    injection h with h
    rcases (assembles_iff _).mp hm with hm | hm
    · exact keeps_setAssembler s l a hm
    · refine keeps_setLine s l _ ?_
      rintro ⟨hlaw, hown⟩
      obtain ⟨hstreak, got, p, f, hcollect⟩ := collect_of_draining hlaw hm
      rw [hcollect] at h
      exact ⟨lineLaw_of_draining hm hstreak (collect_of_going _ chars got p f a h), hown⟩

/-- A line in assembly is on no line that seeks or settles: so such a line that takes characters is ENABLED. -/
theorem keeps_lineStarted (s : State) (l : Fin 8) (a : Assembler) (hm : (s.line l).mode.assembles = true)
    (hidle : ∀ got p f, (s.line l).assembler ≠ .collect got p f) :
    Keeps s (s.setLine l { s.line l with assembler := a }) := by
  rcases (assembles_iff _).mp hm with hm | hm
  · exact keeps_setAssembler s l a hm
  · refine keeps_setLine s l _ ?_
    rintro ⟨hlaw, _⟩
    obtain ⟨_, got, p, f, hcollect⟩ := collect_of_draining hlaw hm
    exact absurd hcollect (hidle got p f)

/-! ### Line actions and the take -/

theorem keeps_disableLine (s : State) (l : Fin 8) : Keeps s (s.disableLine l).1 := by
  unfold State.disableLine
  dsimp only
  split
  case h_1 got p f hm hcollect =>
    refine keeps_setLine s l _ ?_
    rintro ⟨hlaw, hown⟩
    have hstreak := streak_of_enabled hlaw hm
    exact ⟨lineLaw_of_draining rfl hstreak ⟨got, p, f, hcollect⟩, hown⟩
  case h_2 | h_3 => exact keeps_enterDisabled s l
  all_goals exact .refl s

theorem keeps_enableLine (s : State) (l : Fin 8) : Keeps s (s.enableLine l).1 := by
  unfold State.enableLine
  dsimp only
  split
  case h_1 | h_2 => exact keeps_setLine s l _ fun _ => ⟨lineLaw_of_enabled rfl (Nat.zero_lt_succ 7), nofun⟩
  case h_3 hm =>
    refine keeps_setLine s l _ ?_
    rintro ⟨hlaw, hown⟩
    exact ⟨lineLaw_of_enabled rfl (collect_of_draining hlaw hm).1, hown⟩
  case h_4 => exact .refl s

theorem keeps_emptyBuffer (s : State) (l : Fin 8) : Keeps s (s.setLine l { s.line l with buffer := none }) := by
  refine keeps_setLine s l _ ?_
  rintro ⟨hlaw, _⟩
  refine ⟨?_, nofun⟩
  unfold LineLaw at hlaw ⊢
  dsimp only
  cases hm : (s.line l).mode <;> rw [hm] at hlaw
  case enabled | draining => exact hlaw
  case disabled | quarantined => exact ⟨hlaw.1, rfl, hlaw.2.2⟩

theorem keeps_handReport (s : State) (rep : Report) : Keeps s (s.handReport rep) := by
  unfold State.handReport
  split
  · split
    · exact keeps_takeCheckIn s rep _
    · exact keeps_count s _
  · split
    · exact keeps_takeCheckOut s rep _
    · exact keeps_count s _
  · exact keeps_takeCancel s rep

end Sys2Proof.CorridorPorts
end

section
/-! Power-on and the reset pin: what each block reads right after (R17, R41, R61, R86, R114, R115, R173, R192), and every
invariant of Safety.lean. -/

namespace Sys2Proof.CorridorPorts

open Sys2Proof.Machine Sys2Proof.Safety Sys2Proof.Laws

/-! ### The blocks after a reset -/

section AfterReset

variable (straps : BitVec 6) (level : ReadyLevel) (pending : List Instr) (n : Nat)

@[simp] theorem port_afterReset (p : Port) : (State.afterReset straps level pending n).port p = .reset := by
  cases p <;> rfl

@[simp] theorem line_afterReset (l : Fin 8) : (State.afterReset straps level pending n).line l = .reset := by
  simp [State.line, State.afterReset]

@[simp] theorem approach_afterReset (ap : Fin 8) : (State.afterReset straps level pending n).approach ap = .reset := by
  simp [State.approach, State.afterReset]

@[simp] theorem record_afterReset (r : Fin 24) : (State.afterReset straps level pending n).record r = none := by
  simp [State.record, State.afterReset]

@[simp] theorem slot_afterReset (k : Fin 4) : (State.afterReset straps level pending n).slot k = .idle := by
  simp [State.slot, State.afterReset]

@[simp] theorem slotTimer_afterReset (k : Fin 4) : (State.afterReset straps level pending n).slotTimer k = none := by
  simp [State.slotTimer, State.afterReset]

@[simp] theorem lockout_afterReset (ap : Fin 8) : (State.afterReset straps level pending n).lockout ap = none := by
  simp [State.lockout, State.afterReset]

theorem gens_afterReset (tab : Table) (i : Nat) :
    (State.afterReset straps level pending n).tableGen tab = 0 ∧
      (State.afterReset straps level pending n).entryGen tab i = 0 := by
  cases tab <;> simp [State.tableGen, State.entryGen, State.afterReset]

/-! ### The invariants after a reset -/

theorem queuesFit_afterReset : QueuesFit (State.afterReset straps level pending n) :=
  ⟨Nat.le_add_right 40 56, Nat.le_add_right 96 56, Nat.zero_le _, Nat.zero_le _⟩

theorem alertsCounted_afterReset : AlertsCounted (State.afterReset straps level pending n) :=
  ⟨rfl, Nat.zero_le _, rfl⟩

theorem portLaw_reset : PortLaw PortState.reset :=
  ⟨nofun, ⟨rfl, rfl⟩, rfl, rfl, rfl, fun hm => absurd rfl hm, nofun⟩

theorem portsLawful_afterReset : PortsLawful (State.afterReset straps level pending n) :=
  ⟨portLaw_reset, portLaw_reset⟩

theorem linesLawful_afterReset : LinesLawful (State.afterReset straps level pending n) := by
  intro l
  rw [line_afterReset]
  exact ⟨Nat.zero_lt_succ 7, nofun⟩

theorem recordsLawful_afterReset : RecordsLawful (State.afterReset straps level pending n) := by
  simp [RecordsLawful]

theorem quiet_afterReset : QuietOutsideActive (State.afterReset straps level pending n) :=
  fun _ => ⟨by simp, by simp, by simp, rfl⟩

/-- With every slot IDLE no two calls meet. -/
theorem callsApart_afterReset : CallsApart (State.afterReset straps level pending n) := by
  have hidle (k : Fin 4) : ((State.afterReset straps level pending n).slot k).state = .idle := by
    rw [slot_afterReset]
    rfl
  exact ⟨fun _ => hidle, fun k _ _ hk => absurd (hidle k) hk, fun k hk => absurd (hidle k) hk,
    fun k hk => absurd (hidle k) hk, Nat.le_refl 1, Nat.le_add_right 1 14⟩

theorem membersAgree_afterReset : MembersAgree (State.afterReset straps level pending n) := by
  refine ⟨fun k => ?_, fun k r hr => ?_, fun r x hx => ?_⟩
  · rw [slot_afterReset, slotTimer_afterReset]
    exact ⟨rfl, rfl, List.nodup_nil⟩
  · rw [slot_afterReset] at hr
    exact nomatch hr
  · rw [record_afterReset] at hx
    exact nomatch hx

end AfterReset

/-- Settles O55: each invariant by what its blocks read after a reset. -/
theorem resetHoldsEveryInvariant : Obligations.ResetHoldsEveryInvariant := by
  intro straps level pending n s
  exact ⟨queuesFit_afterReset straps level pending n, alertsCounted_afterReset straps level pending n,
    portsLawful_afterReset straps level pending n, linesLawful_afterReset straps level pending n,
    recordsLawful_afterReset straps level pending n, quiet_afterReset straps level pending n,
    callsApart_afterReset straps level pending n, membersAgree_afterReset straps level pending n⟩

/-! ### The straps -/

theorem strapMode_standby {straps : BitVec 6} (hlow : 1 ≤ straps.toNat) (hhigh : straps.toNat ≤ 62) :
    strapMode straps = .standby := by
  refine if_neg fun h => ?_
  rcases h with h | h <;> simp [h] at hlow hhigh

theorem strapMode_unaddressed {straps : BitVec 6} (h : straps.toNat = 0 ∨ straps.toNat = 63) :
    strapMode straps = .unaddressed :=
  if_pos (h.imp (BitVec.eq_of_toNat_eq ·) (BitVec.eq_of_toNat_eq ·))

theorem counters_reset (ref : CounterRef) : Counters.reset.get ref = 0 ∧ RolloverFlags.reset.get ref.group = false := by
  cases ref with
  | port p c => cases p <;> simp [Counters.get, Counters.reset, CounterRef.group, RolloverFlags.get, RolloverFlags.reset]
  | loc | beacon | approach | controller | notice =>
    simp [Counters.get, Counters.reset, CounterRef.group, RolloverFlags.get, RolloverFlags.reset]

/-- Settles O5: both rows answer the state after reset, read block by block. -/
theorem resetTakesPowerOnValues : Obligations.ResetTakesPowerOnValues := by
  intro straps level s
  refine ⟨State.afterReset straps level s.pending s.freeCount, rfl, rfl, rfl, rfl, strapMode_standby,
    strapMode_unaddressed, rfl, rfl, rfl, port_afterReset straps level _ _, rfl, rfl, line_afterReset straps level _ _,
    rfl, approach_afterReset straps level _ _, fun i => ?_, rfl, rfl, gens_afterReset straps level _ _,
    record_afterReset straps level _ _, fun k => ⟨slot_afterReset .., slotTimer_afterReset ..⟩, rfl,
    lockout_afterReset straps level _ _, rfl, rfl, rfl, rfl, counters_reset, rfl, rfl⟩
  simp [State.afterReset, RouteEntry.reset]

end Sys2Proof.CorridorPorts
end

section
/-! Every command, and so every step, keeps the laws of the queues, the ports, the lines and the alert count. -/

namespace Sys2Proof.CorridorPorts

open Sys2Proof.Machine Sys2Proof.Safety Sys2Proof.Laws Sys2Proof.LineFormats

/-! ### The table store (R27, R68, R76 to R78) -/

theorem keeps_retire (s : State) (ap : Fin 8) : Keeps s (s.retire ap) := by
  have hrecords : Keeps s (s.retireRecords ap) :=
    keeps_forEach _ (fun r t => keeps_ite (keeps_takeOut t r .retired) (.refl t)) _ s
  unfold State.retire
  dsimp only
  split
  · exact hrecords
  · exact hrecords.trans (keeps_closeSlot _ _ _)

theorem keeps_writeApproach (s : State) (ap : Fin 8) (force : Bool) (contents : List Byte) :
    Keeps s (s.writeApproach ap force contents).1 := by
  have hstore (t : State) (e : ApproachEntry) : Keeps t (t.storeApproach ap e) := keeps_of_same rfl rfl rfl rfl rfl rfl
  unfold State.writeApproach
  dsimp only
  split
  · exact .refl s
  · split
    · exact .refl s
    · exact ((keeps_ite (keeps_retire s ap) (.refl s)).trans (hstore _ _)).marked

theorem keeps_writeRoute (s : State) (i : Fin 64) (contents : List Byte) : Keeps s (s.writeRoute i contents).1 := by
  unfold State.writeRoute
  dsimp only
  split
  · exact .refl s
  · split
    · exact .refl s
    · exact keeps_of_same rfl rfl rfl rfl rfl rfl

theorem keeps_writeConflicts (s : State) (contents : List Byte) : Keeps s (s.writeConflicts contents).1 := by
  unfold State.writeConflicts
  split
  · exact .refl s
  · exact keeps_of_same rfl rfl rfl rfl rfl rfl

/-- New parameters keep the queues in their partitions when the new split does. -/
theorem keeps_storeParams (s : State) (e : Params) (hlow : 40 ≤ e.split) (hhigh : e.split ≤ 152)
    (hfit : QueuesFit s → ∀ p, usedUnits (s.port p).queue ≤ partitionOf e.split p) : Keeps s (s.storeParams e) :=
  ⟨⟨fun h => ⟨hlow, hhigh, hfit h .a, hfit h .b⟩, id, id⟩, id⟩

theorem firstFailure_eq_none {checks : List Check} (h : firstFailure checks = none) {c : Check} (hc : c ∈ checks) :
    c.1 = false := by
  rw [firstFailure, Option.map_eq_none_iff, List.find?_eq_none] at h
  simpa using h c hc

/-- The checks of a PARAMS write hold the split in its range (R76). -/
theorem split_of_paramsChecks {s : State} {x : RawParams} (h : firstFailure (s.paramsChecks x) = none) :
    40 ≤ x.split ∧ x.split ≤ 152 := by
  have hcheck : (outside 10 40 152 x.split).1 = false := firstFailure_eq_none h (by simp [State.paramsChecks])
  simpa [outside] using hcheck

/-- The partition tests of a PARAMS write pass only when each queue fits its new partition (R27, R77). -/
theorem fits_of_partitionTests {s : State} {x : RawParams} (h : s.partitionTests x = none) (hs : QueuesFit s)
    (p : Port) : usedUnits (s.port p).queue ≤ partitionOf x.split p := by
  unfold State.partitionTests at h
  split at h
  · exact nomatch h
  case isFalse hno =>
    by_cases hsame : x.split = s.params.split
    · rw [hsame]
      exact ((queuesFit_iff s).mp hs).2 p
    · have hfit : s.splitInUse x.split = false := Bool.eq_false_iff.mpr fun huse => hno ⟨hsame, huse⟩
      simp only [State.splitInUse, Bool.or_eq_false_iff, decide_eq_false_iff_not, Nat.not_lt] at hfit
      cases p with
      | a => exact hfit.2
      | b => exact hfit.1

theorem keeps_flowAfter (s : State) (old : Params) (p : Port) : Keeps s (s.flowAfter old p) :=
  keeps_ite (.refl s) (keeps_evalFlow s p)

theorem keeps_writeParams (s : State) (contents : List Byte) : Keeps s (s.writeParams contents).1 := by
  unfold State.writeParams
  dsimp only
  split
  · exact .refl s
  case h_2 hchecks =>
    split
    · exact .refl s
    case h_2 htests =>
      obtain ⟨hlow, hhigh⟩ := split_of_paramsChecks hchecks
      exact (((keeps_storeParams s _ hlow hhigh (fits_of_partitionTests htests)).trans
        (keeps_flowAfter _ _ _)).trans (keeps_flowAfter _ _ _)).marked

theorem keeps_writeEntryRequest (b : List Byte) (s : State) : Keeps s (writeEntryRequest b s).1 := by
  unfold writeEntryRequest
  split
  · exact .refl s
  case h_2 t _ =>
    dsimp only
    split_ifs
    · exact .refl s
    · exact .refl s
    · exact .refl s
    · cases t with
      | approach => exact keeps_writeApproach s _ _ _
      | route => exact keeps_writeRoute s _ _
      | conflicts => exact keeps_writeConflicts s _
      | params => exact keeps_writeParams s _

/-! ### The other requests -/

theorem keeps_identifyRequest (b : List Byte) (s : State) : Keeps s (identifyRequest b s).1 := by
  unfold identifyRequest
  split
  · exact .refl s
  · split <;> exact .refl s

theorem keeps_readTableRequest (b : List Byte) (s : State) : Keeps s (readTableRequest b s).1 := by
  unfold readTableRequest
  split
  · exact .refl s
  · split <;> exact .refl s

theorem keeps_verifyTableRequest (b : List Byte) (s : State) : Keeps s (verifyTableRequest b s).1 := by
  unfold verifyTableRequest
  split
  · exact .refl s
  · dsimp only
    split <;> exact .refl s

theorem keeps_readRecordsRequest (b : List Byte) (s : State) : Keeps s (readRecordsRequest b s).1 := by
  unfold readRecordsRequest
  split <;> exact .refl s

theorem keeps_readCountersRequest (b : List Byte) (s : State) : Keeps s (readCountersRequest b s).1 := by
  unfold readCountersRequest
  split
  · exact .refl s
  · split
    · exact .refl s
    · dsimp only
      split
      · exact keeps_of_same rfl rfl rfl rfl rfl rfl
      · exact .refl s

theorem keeps_withdrawRequest (b : List Byte) (s : State) : Keeps s (withdrawRequest b s).1 := by
  unfold withdrawRequest
  split
  · exact .refl s
  · split
    · exact .refl s
    · exact keeps_removeRecord s _ _ _

/-- A PORT CONTROL keeps what its action keeps. -/
theorem keeps_portControl (action : Nat) (act : Port → State → State × Status) (hact : ∀ p s, Keeps s (act p s).1)
    (b : List Byte) (s : State) : Keeps s (portControl action act b s).1 := by
  unfold portControl
  split
  · exact .refl s
  · split
    · exact .refl s
    · exact hact _ s

/-- A LINE CONTROL keeps what its action keeps. -/
theorem keeps_lineControl (action : Nat) (act : Fin 8 → State → State × Status) (hact : ∀ l s, Keeps s (act l s).1)
    (b : List Byte) (s : State) : Keeps s (lineControl action act b s).1 := by
  unfold lineControl
  split
  · exact .refl s
  · split
    · exact .refl s
    · exact hact _ s

theorem keeps_commissionRequest (b : List Byte) (s : State) : Keeps s (commissionRequest b s).1 := by
  unfold commissionRequest
  split
  · split
    · exact .refl s
    · exact keeps_of_same rfl rfl rfl rfl rfl rfl
  · exact .refl s

theorem keeps_giveUp (s : State) (k : Fin 4) : Keeps s (s.giveUp k) :=
  ((keeps_ite (keeps_place s _ k) (.refl s)).trans (keeps_setSlot _ k .idle)).trans (keeps_setSlotTimer _ k none)

theorem keeps_decommissionRequest (b : List Byte) (s : State) : Keeps s (decommissionRequest b s).1 := by
  unfold decommissionRequest
  split
  · have hretired : Keeps s s.retireAll := keeps_forEach _ (fun r t => keeps_takeOut t r .retired) _ s
    have hfreed := hretired.trans (keeps_forEach _ (fun k t => keeps_giveUp t k) callSlots s.retireAll)
    unfold State.decommission
    generalize forEach callSlots (fun k t => t.giveUp k) s.retireAll = t at hfreed ⊢
    exact hfreed.trans (keeps_of_same rfl rfl rfl rfl rfl rfl)
  · exact .refl s

/-! ### What a command answers -/

/-- Between events: the laws of the queues, the ports and the lines are kept, and the alert count stays true. -/
structure Sound (s t : State) : Prop extends FramesKept s t where
  counted : AlertsCounted s → AlertsCounted t

/-- Whatever state an outcome answers is sound. -/
def Yields (s : State) (o : Host.Outcome State Fault Refusal) : Prop := ∀ t, o = .next t → Sound s t

theorem yields_noEvent (s : State) : Yields s (noEvent s) := by
  rintro t ⟨⟩
  exact ⟨⟨id, id, id⟩, id⟩

/-- An event ends between events: an ALERT it owes is offered, and none is owed after it (R198). -/
theorem yields_taken {s u : State} (h : Keeps s u) : Yields s (taken u) := by
  rintro t ⟨⟩
  refine ⟨h.toFramesKept.trans (framesKept_endEvent u), fun hs => alertsCounted_endEvent u (h.alerts ?_)⟩
  obtain ⟨hcount, hmax, hnone⟩ := hs
  exact ⟨hcount, hmax, fun howed => nomatch hnone.symm.trans howed⟩

/-- A change that owes no more than before is sound without an event's end. -/
theorem sound_of_keeps {s t : State} (h : Keeps s t) (hdue : t.alertDue = s.alertDue) : Sound s t := by
  refine ⟨h.toFramesKept, fun ⟨hcount, hmax, hnone⟩ => ?_⟩
  obtain ⟨hcount', hmax', _⟩ := h.alerts ⟨hcount, hmax, fun howed => nomatch hnone.symm.trans howed⟩
  exact ⟨hcount', hmax', hdue.trans hnone⟩

theorem yields_ite {c : Prop} [Decidable c] {s : State} {o q : Host.Outcome State Fault Refusal}
    (ho : c → Yields s o) (hq : ¬ c → Yields s q) : Yields s (if c then o else q) := by
  split
  · exact ho ‹c›
  · exact hq ‹¬ c›

theorem takeHead_keeps {s t : State} {row : HandlerRow} {x : InboundFrame} (h : s.takeHead row = some (x, t)) :
    Keeps s t := by
  unfold State.takeHead at h
  split at h
  · exact nomatch h
  · split at h
    · injection h with h
      injection h with _ h
      rw [← h]
      exact keeps_of_same rfl rfl rfl rfl rfl rfl
    · exact nomatch h

theorem keeps_reply (s : State) (x : InboundFrame) (a : Answer) : Keeps s (s.reply x a) :=
  keeps_ite (keeps_enqueue s _ _) (keeps_count s _)

/-- A request yields what it carries out, then its REPLY (R177, R178). -/
theorem yields_request (row : HandlerRow) (carryOut : List Byte → State → State × Answer)
    (hcarry : ∀ b t, Keeps t (carryOut b t).1) (s : State) : Yields s (request row carryOut s) := by
  unfold request
  split
  · exact yields_noEvent s
  case h_2 x t htake =>
    exact yields_taken (((takeHead_keeps htake).trans (hcarry x.frame.body t)).trans (keeps_reply _ x _))

/-! ### Corridor rows -/

theorem yields_frameStart (p : Port) (more : List SerialChar) (s : State) : Yields s (execFrameStart p more s) := by
  refine yields_ite (fun hhunt => ?_) (fun _ => yields_noEvent s)
  split
  · exact yields_taken (keeps_setReceiver s p _ (rxMarked_of_not_inProgress (by rw [hhunt]; rfl)))
  · exact yields_noEvent s
  · exact yields_noEvent s

theorem yields_validFrame (p : Port) (chars : List SerialChar) (s : State) : Yields s (execValidFrame p chars s) := by
  unfold execValidFrame
  split
  · exact yields_taken (keeps_frameResult s p _ _)
  · exact yields_noEvent s

theorem yields_crcError (p : Port) (chars : List SerialChar) (s : State) : Yields s (execCrcError p chars s) := by
  unfold execCrcError
  split
  · exact yields_taken (keeps_frameResult s p _ _)
  · exact yields_noEvent s

theorem yields_lengthError (p : Port) (chars : List SerialChar) (s : State) : Yields s (execLengthError p chars s) := by
  unfold execLengthError
  split
  · exact yields_taken (keeps_frameResult s p _ _)
  · exact yields_noEvent s

theorem yields_corridorRxIdle (p : Port) (s : State) : Yields s (execCorridorRxIdle p s) := by
  unfold execCorridorRxIdle
  cases hrx : (s.port p).receiver.inProgress with
  | false =>
    rw [idle_of_not_inProgress _ hrx]
    exact yields_taken (keeps_setReceiver s p _ (rxMarked_of_not_inProgress hrx))
  | true =>
    rw [idle_of_inProgress _ hrx]
    exact yields_taken (keeps_frameResult s p _ _)

theorem yields_txStart (p : Port) (s : State) : Yields s (execTxStart p s) := by
  refine yields_ite (fun ⟨henabled, _⟩ => ?_) (fun _ => yields_noEvent s)
  split
  case h_1 hstart => exact yields_taken (keeps_startChosen s _ p henabled hstart)
  case h_2 => exact yields_noEvent s

theorem yields_frameTxEnd (p : Port) (s : State) : Yields s (execFrameTxEnd p s) := by
  have hfree := (keeps_count s (.port p .txFrames)).trans (keeps_freeLine _ p)
  unfold execFrameTxEnd
  split
  · exact yields_noEvent s
  · dsimp only
    split
    · exact yields_taken (keeps_frameTxEnd s p)
    · exact yields_taken hfree
    · exact yields_taken hfree

theorem yields_fillTimerExpiry (p : Port) (s : State) : Yields s (execFillTimerExpiry p s) := by
  refine yields_ite (fun ⟨henabled, _⟩ => ?_) (fun _ => yields_noEvent s)
  have hran := keeps_fillTimer s p 0 henabled
  refine yields_ite (fun _ => yields_taken (hran.trans (keeps_startFill _ p ?_))) (fun _ => yields_taken hran)
  rw [port_setPort_same, henabled]

theorem yields_holdTimerExpiry (p : Port) (s : State) : Yields s (execHoldTimerExpiry p s) := by
  unfold execHoldTimerExpiry
  dsimp only
  split
  · exact yields_noEvent s
  · exact yields_taken ((keeps_holdEnds s p).trans (keeps_count_raise _ _ _))

theorem yields_holdRepeatExpiry (p : Port) (s : State) : Yields s (execHoldRepeatExpiry p s) := by
  unfold execHoldRepeatExpiry
  dsimp only
  split
  · exact yields_noEvent s
  case h_2 hrun => exact yields_taken (keeps_holdRepeat s p _ _ (by rw [hrun]; rfl))

theorem yields_silenceTimerExpiry (p : Port) (s : State) : Yields s (execSilenceTimerExpiry p s) :=
  yields_ite (fun _ => yields_taken ((keeps_silence s p).trans (keeps_raise _ _))) (fun _ => yields_noEvent s)

theorem yields_drainComplete (p : Port) (s : State) : Yields s (execDrainComplete p s) :=
  yields_ite (fun ⟨hm, hrx, htx⟩ => yields_taken (keeps_drained s p hm hrx htx)) (fun _ => yields_noEvent s)

/-! ### Beacon rows -/

theorem yields_reportStart (l : Fin 8) (parityBit : Bool) (more : List BeaconChar) (s : State) :
    Yields s (execReportStart l parityBit more s) := by
  refine yields_ite (fun ⟨hm, hseek⟩ => ?_) (fun _ => yields_noEvent s)
  split
  · exact yields_taken (keeps_lineStarted s l _ hm (by simp [hseek]))
  · exact yields_noEvent s
  · exact yields_noEvent s

theorem yields_reportComplete (l : Fin 8) (chars : List BeaconChar) (s : State) :
    Yields s (execReportComplete l chars s) := by
  unfold execReportComplete
  split
  case h_1 => exact yields_taken (keeps_reportEnded s l _ (classOf_judge l _))
  case h_2 hrun => exact yields_taken (keeps_lineStored s l chars _ hrun)
  all_goals exact yields_noEvent s

theorem yields_beaconLineIdle (l : Fin 8) (s : State) : Yields s (execBeaconLineIdle l s) := by
  refine yields_ite (fun hm => ?_) (fun _ => yields_noEvent s)
  split
  case h_1 hsettle => exact yields_taken (keeps_lineStarted s l _ hm (by simp [hsettle]))
  case h_2 => exact yields_taken (.refl s)
  case h_3 => exact yields_taken (keeps_reportEnded s l .framing trivial)

theorem yields_lineDrainComplete (l : Fin 8) (how : ReportEnd) (s : State) :
    Yields s (execLineDrainComplete l how s) := by
  unfold execLineDrainComplete
  split
  · exact yields_taken (keeps_drainReport s l _)
  · split
    · exact yields_taken (keeps_drainReport s l _)
    · exact yields_noEvent s
  · exact yields_noEvent s

theorem yields_reportTake (s : State) : Yields s (execReportTake s) := by
  unfold execReportTake
  split
  · exact yields_noEvent s
  case h_2 l rep _ =>
    have hpointer (t : State) : Keeps t { t with reportPointer := l } := keeps_of_same rfl rfl rfl rfl rfl rfl
    have htaken : Keeps s
        ({ s.setLine l { s.line l with buffer := none } with reportPointer := l }.count (.beacon l .reportsGood)) :=
      ((keeps_emptyBuffer s l).trans (hpointer _)).trans (keeps_count _ _)
    exact yields_ite (fun _ => yields_taken (htaken.trans (keeps_handReport _ rep))) (fun _ => yields_taken htaken)

/-! ### Rows of records, evaluations and lockouts -/

theorem yields_etaExpiry (r : Fin 24) (s : State) : Yields s (execEtaExpiry r s) := by
  unfold execEtaExpiry
  split
  · exact yields_noEvent s
  · exact yields_taken (keeps_setRecord s r _)

theorem yields_lifetimeExpiry (r : Fin 24) (s : State) : Yields s (execLifetimeExpiry r s) := by
  unfold execLifetimeExpiry
  split
  · exact yields_noEvent s
  · exact yields_taken (keeps_removeRecord s r _ _)

theorem yields_holdOffExpiry (r : Fin 24) (s : State) : Yields s (execHoldOffExpiry r s) := by
  unfold execHoldOffExpiry
  split
  · exact yields_noEvent s
  · split
    · exact yields_noEvent s
    · exact yields_taken (keeps_setRecord s r _).marked

theorem yields_evaluation (s : State) : Yields s (execEvaluation s) := by
  have htaken : Keeps s { s with evalDue := false } := keeps_of_same rfl rfl rfl rfl rfl rfl
  exact yields_ite (fun _ => yields_taken (htaken.trans (keeps_evaluate _))) (fun _ => yields_noEvent s)

theorem yields_lockoutExpiry (ap : Fin 8) (s : State) : Yields s (execLockoutExpiry ap s) := by
  unfold execLockoutExpiry
  split
  · exact yields_noEvent s
  · exact yields_taken (keeps_setLockout s ap none).marked

/-! ### Phase-port rows -/

theorem yields_messageStart (more : List SerialChar) (s : State) : Yields s (execMessageStart more s) := by
  unfold execMessageStart
  split
  · exact yields_noEvent s
  · split
    · exact yields_taken (keeps_of_same rfl rfl rfl rfl rfl rfl)
    · exact yields_noEvent s
    · exact yields_noEvent s

theorem yields_phases (chars : List SerialChar) (s : State) : Yields s (execPhases chars s) := by
  unfold execPhases
  split
  · exact yields_taken ((keeps_validMessage s).trans (keeps_setController _ _)).marked
  · exact yields_noEvent s

theorem yields_accept (chars : List SerialChar) (s : State) : Yields s (execAccept chars s) := by
  unfold execAccept
  split
  · exact yields_taken (keeps_forCall s _ _ fun k t => keeps_acceptFor t k)
  · exact yields_noEvent s

theorem yields_start (chars : List SerialChar) (s : State) : Yields s (execStart chars s) := by
  unfold execStart
  split
  · exact yields_taken (keeps_forCall s _ _ fun k t => keeps_startFor t k)
  · exact yields_noEvent s

theorem yields_deny (chars : List SerialChar) (s : State) : Yields s (execDeny chars s) := by
  unfold execDeny
  split
  · exact yields_taken (keeps_forCall s _ _ fun k t => keeps_denyFor t k _)
  · exact yields_noEvent s

theorem yields_end (chars : List SerialChar) (s : State) : Yields s (execEnd chars s) := by
  unfold execEnd
  split
  · exact yields_taken (keeps_forCall s _ _ fun k t => keeps_endFor t k _)
  · exact yields_noEvent s

theorem yields_invalidMessage (chars : List SerialChar) (s : State) : Yields s (execInvalidMessage chars s) := by
  unfold execInvalidMessage
  split
  · exact yields_taken ((keeps_messageDone s).trans (keeps_count _ _))
  · exact yields_noEvent s

theorem yields_messageCutOff (s : State) : Yields s (execMessageCutOff s) := by
  unfold execMessageCutOff
  split
  · exact yields_noEvent s
  · exact yields_taken ((keeps_messageDone s).trans (keeps_count _ _))

theorem yields_messageTxEnd (s : State) : Yields s (execMessageTxEnd s) := by
  unfold execMessageTxEnd
  split
  · exact yields_noEvent s
  · exact yields_taken (keeps_of_same rfl rfl rfl rfl rfl rfl)

theorem yields_readyLineChange (level : ReadyLevel) (s : State) : Yields s (execReadyLineChange level s) :=
  yields_ite (fun _ => yields_noEvent s) (fun _ => yields_taken (keeps_setController s _).marked)

theorem yields_phaseAgeExpiry (s : State) : Yields s (execPhaseAgeExpiry s) :=
  yields_ite (fun _ => yields_taken ((keeps_setController s _).trans (keeps_raise _ _)).marked)
    (fun _ => yields_noEvent s)

theorem yields_responseTimeout (k : Fin 4) (s : State) : Yields s (execResponseTimeout k s) := by
  refine yields_ite (fun _ => ?_) (fun _ => yields_noEvent s)
  split
  case h_1 => exact yields_taken ((keeps_closeReturning s k _).trans (keeps_responseMissed _))
  case h_2 => exact yields_taken ((keeps_idleSlot s k).trans (keeps_responseMissed _))
  all_goals exact yields_noEvent s

theorem yields_startLimitExpiry (k : Fin 4) (s : State) : Yields s (execStartLimitExpiry k s) :=
  yields_ite (fun _ => yields_taken (keeps_closeReturning s k _)) (fun _ => yields_noEvent s)

theorem yields_serviceLimitExpiry (k : Fin 4) (s : State) : Yields s (execServiceLimitExpiry k s) :=
  yields_ite (fun _ => yields_taken (keeps_closeReturning s k _)) (fun _ => yields_noEvent s)

/-! ### Handler rows that answer nothing, and resets -/

theorem yields_time (s : State) : Yields s (execTime s) := by
  unfold execTime
  split
  · exact yields_noEvent s
  case h_2 htake =>
    split
    · exact yields_taken (takeHead_keeps htake)
    · exact yields_taken ((takeHead_keeps htake).trans (keeps_of_same rfl rfl rfl rfl rfl rfl))

theorem yields_noticeReceive (s : State) : Yields s (execNoticeReceive s) := by
  unfold execNoticeReceive
  split
  · exact yields_noEvent s
  case h_2 htake => exact yields_taken ((takeHead_keeps htake).trans (keeps_noticeFrameTaken _ _))

theorem yields_unknownKind (s : State) : Yields s (execUnknownKind s) := by
  unfold execUnknownKind
  split
  · exact yields_noEvent s
  case h_2 htake => exact yields_taken ((takeHead_keeps htake).trans (keeps_count _ _))

theorem yields_reset (straps : BitVec 6) (level : ReadyLevel) (s : State) : Yields s (execPowerOn straps level s) := by
  rintro t ⟨⟩
  exact ⟨⟨fun _ => queuesFit_afterReset .., fun _ => portsLawful_afterReset ..,
    fun _ => linesLawful_afterReset straps level _ _⟩, fun _ => alertsCounted_afterReset ..⟩

/-- Every command is sound. -/
theorem yields_exec (c : Instr) (s : State) : Yields s (exec c s) := by
  cases c with
  | powerOn straps level | resetPin straps level => exact yields_reset straps level s
  | validFrame p chars => exact yields_validFrame p chars s
  | crcError p chars => exact yields_crcError p chars s
  | lengthError p chars => exact yields_lengthError p chars s
  | corridorRxIdle p => exact yields_corridorRxIdle p s
  | txStart p => exact yields_txStart p s
  | frameTxEnd p => exact yields_frameTxEnd p s
  | fillTimerExpiry p => exact yields_fillTimerExpiry p s
  | holdTimerExpiry p => exact yields_holdTimerExpiry p s
  | holdRepeatExpiry p => exact yields_holdRepeatExpiry p s
  | silenceTimerExpiry p => exact yields_silenceTimerExpiry p s
  | portDisable => exact yields_request _ _ (keeps_portControl 0 _ fun p t => keeps_disablePort t p) s
  | portEnable => exact yields_request _ _ (keeps_portControl 1 _ fun p t => keeps_enablePort t p) s
  | portReset => exact yields_request _ _ (keeps_portControl 2 _ fun p t => keeps_resetPort t p) s
  | drainComplete p => exact yields_drainComplete p s
  | reportComplete l chars => exact yields_reportComplete l chars s
  | beaconLineIdle l => exact yields_beaconLineIdle l s
  | lineDisable => exact yields_request _ _ (keeps_lineControl 0 _ fun l t => keeps_disableLine t l) s
  | lineEnable => exact yields_request _ _ (keeps_lineControl 1 _ fun l t => keeps_enableLine t l) s
  | lineDrainComplete l how => exact yields_lineDrainComplete l how s
  | reportTake => exact yields_reportTake s
  | etaExpiry r => exact yields_etaExpiry r s
  | lifetimeExpiry r => exact yields_lifetimeExpiry r s
  | holdOffExpiry r => exact yields_holdOffExpiry r s
  | evaluation => exact yields_evaluation s
  | lockoutExpiry ap => exact yields_lockoutExpiry ap s
  | readyLineChange level => exact yields_readyLineChange level s
  | phases chars => exact yields_phases chars s
  | accept chars => exact yields_accept chars s
  | start chars => exact yields_start chars s
  | deny chars => exact yields_deny chars s
  | endService chars => exact yields_end chars s
  | invalidMessage chars => exact yields_invalidMessage chars s
  | messageCutOff => exact yields_messageCutOff s
  | messageTxEnd => exact yields_messageTxEnd s
  | phaseAgeExpiry => exact yields_phaseAgeExpiry s
  | responseTimeout k => exact yields_responseTimeout k s
  | startLimitExpiry k => exact yields_startLimitExpiry k s
  | serviceLimitExpiry k => exact yields_serviceLimitExpiry k s
  | time => exact yields_time s
  | corridorTimeWrap => exact yields_taken (keeps_of_same rfl rfl rfl rfl rfl rfl)
  | noticeReceive => exact yields_noticeReceive s
  | unknownKind => exact yields_unknownKind s
  | unknownRequest => exact yields_request .unknownRequest (fun _ t => (t, .plain .unknownRequest)) (fun _ t => .refl t) s
  | identify => exact yields_request _ _ keeps_identifyRequest s
  | readStatus => exact yields_request .readStatus readStatusRequest (fun _ t => .refl t) s
  | readTable => exact yields_request _ _ keeps_readTableRequest s
  | writeEntry => exact yields_request _ _ keeps_writeEntryRequest s
  | verifyTable => exact yields_request _ _ keeps_verifyTableRequest s
  | readRecords => exact yields_request _ _ keeps_readRecordsRequest s
  | readSlots => exact yields_request .readSlots readSlotsRequest (fun _ t => .refl t) s
  | withdraw => exact yields_request _ _ keeps_withdrawRequest s
  | readCounters => exact yields_request _ _ keeps_readCountersRequest s
  | readAttention =>
    exact yields_request .readAttention readAttentionRequest (fun _ t => keeps_of_same rfl rfl rfl rfl rfl rfl) s
  | commission => exact yields_request _ _ keeps_commissionRequest s
  | decommission => exact yields_request _ _ keeps_decommissionRequest s
  | frameStart p more => exact yields_frameStart p more s
  | reportStart l parityBit more => exact yields_reportStart l parityBit more s
  | messageStart more => exact yields_messageStart more s

/-! ### One tenth, and one step -/

/-- A tenth stops no timer and starts none. -/
theorem portLaw_tick {x : PortState} (h : PortLaw x) : PortLaw x.tick := by
  obtain ⟨hhead, hmarks, hheld, hholding, hfill, hsilence, hsilent⟩ := h
  have hrun (t : Option Nat) : (countDown t).isSome = t.isSome := Option.isSome_map
  refine ⟨hhead, hmarks, (hrun _).trans hheld, (hrun _).trans hholding, (hrun _).trans hfill, fun hm => ?_,
    fun hm hstop => hsilent hm (Option.map_eq_none_iff.mp hstop)⟩
  exact Option.map_eq_none_iff.mpr (hsilence hm)

theorem keeps_countTenth (s : State) : Keeps s s.countTenth := by
  have ha : s.countTenth.portA = s.portA.tick := rfl
  have hb : s.countTenth.portB = s.portB.tick := rfl
  have hp : s.countTenth.params = s.params := rfl
  have hc : s.countTenth.alertCount = s.alertCount := rfl
  have hd : s.countTenth.alertDue = s.alertDue := rfl
  have hqueue (x : PortState) : x.tick.queue = x.queue := rfl
  refine ⟨⟨fun h => ?_, fun h => ?_, id⟩, fun h => ?_⟩
  · simpa only [QueuesFit, State.partition, ha, hb, hp, hqueue] using h
  · exact ⟨portLaw_tick h.1, portLaw_tick h.2⟩
  · simpa only [AlertsHeld, alertsQueued, ha, hb, hc, hd, hqueue] using h

theorem sound_idle (s : State) : Sound s s.idle := by
  unfold State.idle
  split
  · unfold State.tick
    split
    · exact sound_of_keeps ((keeps_countTenth s).trans (keeps_of_same rfl rfl rfl rfl rfl rfl)) rfl
    · exact sound_of_keeps ((keeps_countTenth s).trans (keeps_of_same rfl rfl rfl rfl rfl rfl)) rfl
  · exact sound_of_keeps (keeps_of_same rfl rfl rfl rfl rfl rfl) rfl

/-- Every step is sound: an idle one by its own change, another by its command. -/
theorem sound_step (s t : State) (h : step s = .next t) : Sound s t := by
  unfold step at h
  split at h
  · injection h with h
    rw [← h]
    exact sound_idle s
  case h_2 c rest _ =>
    have hsound := yields_exec c { s with pending := rest } t h
    exact ⟨⟨hsound.queues, hsound.ports, hsound.lines⟩, hsound.counted⟩

/-- Settles O56: every step is sound, its queues and its alert count among it. -/
theorem queuesAndAlertsStayLawful : Obligations.QueuesAndAlertsStayLawful :=
  ⟨fun s t hs h => (sound_step s t h).queues hs, fun s t hs h => (sound_step s t h).counted hs⟩

/-- Settles O57: every step is sound, its ports and its lines among it. -/
theorem portsAndLinesStayLawful : Obligations.PortsAndLinesStayLawful :=
  ⟨fun s t hs h => (sound_step s t h).ports hs, fun s t hs h => (sound_step s t h).lines hs⟩

end Sys2Proof.CorridorPorts
end

section
/-! What the rows of the corridor ports do: frame results by port state and kind, routing and relaying, flow control, the
port timers and the drain (R18 to R38). -/

namespace Sys2Proof.CorridorPorts

open Sys2Proof.Machine Sys2Proof.Safety Sys2Proof.Laws Sys2Proof.LineFormats

/-! ### A frame that ends, by port state (R18, R19, R38) -/

theorem execValidFrame_of_frameFrom {s : State} {p : Port} {chars : List SerialChar} {r : Receiver} {f : LinkFrame}
    (h : s.frameFrom p chars = some (r, .valid f)) :
    execValidFrame p chars s =
      .next ((s.setPort p { s.port p with receiver := r }).frameResult p (.valid f)).endEvent := by
  unfold execValidFrame
  rw [h]
  rfl

theorem execCrcError_of_frameFrom {s : State} {p : Port} {chars : List SerialChar} {r : Receiver}
    (h : s.frameFrom p chars = some (r, .crcError)) :
    execCrcError p chars s =
      .next ((s.setPort p { s.port p with receiver := r }).frameResult p .crcError).endEvent := by
  unfold execCrcError
  rw [h]
  rfl

theorem execLengthError_of_frameFrom {s : State} {p : Port} {chars : List SerialChar} {r : Receiver}
    (h : s.frameFrom p chars = some (r, .lengthError)) :
    execLengthError p chars s =
      .next ((s.setPort p { s.port p with receiver := r }).frameResult p .lengthError).endEvent := by
  unfold execLengthError
  rw [h]
  rfl

section FrameResult

variable (s : State) (p : Port) (res : RxResult)

theorem frameResult_enabled (hm : (s.port p).mode = .enabled) : s.frameResult p res = s.takeFrame p res := by
  simp only [State.frameResult, hm]

theorem frameResult_marked (hm : (s.port p).mode = .draining) (hrx : (s.port p).rxMarked = true) :
    s.frameResult p res = (s.setPort p { s.port p with rxMarked := false }).takeFrame p res := by
  simp only [State.frameResult, hm, hrx, if_true]

theorem frameResult_unheard
    (h : (s.port p).mode = .disabled ∨ ((s.port p).mode = .draining ∧ (s.port p).rxMarked = false)) :
    s.frameResult p res = s.count (.port p .rxWhileDisabled) := by
  rcases h with hm | ⟨hm, hrx⟩
  · simp only [State.frameResult, hm]
  · simp only [State.frameResult, hm, hrx, Bool.false_eq_true, if_false]

end FrameResult

theorem heardFrame_enabled (s : State) (p : Port) (hm : (s.port p).mode = .enabled) :
    s.heardFrame p = (s.count (.port p .rxGood)).setPort p
      { (s.count (.port p .rxGood)).port p with silent := false, silenceTimer := some s.params.silenceLimit } := by
  simp [State.heardFrame, hm]

theorem heardFrame_of_not_enabled (s : State) (p : Port) (hm : (s.port p).mode ≠ .enabled) :
    s.heardFrame p = (s.count (.port p .rxGood)).setPort p
      { (s.count (.port p .rxGood)).port p with silent := false } := by
  simp [State.heardFrame, hm]

/-! ### A valid frame by its kind (R19 to R21) -/

section ByKind

variable (s : State) (p : Port) (f : LinkFrame)

theorem dealByKind_fill (hk : f.kind = 0x00) : s.dealByKind p f = s := if_pos hk

theorem dealByKind_hold (hk : f.kind = 0x01) : s.dealByKind p f = s.takeHold p := by
  simp [State.dealByKind, hk, kindFill, kindHold]

theorem dealByKind_resume (hk : f.kind = 0x02) : s.dealByKind p f = s.takeResume p := by
  simp [State.dealByKind, hk, kindFill, kindHold, kindResume]

theorem dealByKind_routed (hk : 3 ≤ f.kind.toNat) : s.dealByKind p f = s.route p f := by
  have hne (k : Byte) (hlow : k.toNat < 3) : f.kind ≠ k := by
    rintro rfl
    omega
  rw [State.dealByKind, if_neg (hne _ (by decide)), if_neg (hne _ (by decide)), if_neg (hne _ (by decide))]

end ByKind

/-- Settles O14: the row hands the frame to an ENABLED port, which hears it and deals with it by its kind. -/
theorem validFrameActsByKind : Obligations.ValidFrameActsByKind := by
  intro s p chars r f hframe hm v u w
  have hexec : exec (.validFrame p chars) s = .next (u.dealByKind p f).endEvent := by
    refine (execValidFrame_of_frameFrom hframe).trans ?_
    rw [frameResult_enabled _ p _ (by rw [port_setPort_same, hm]), State.takeFrame,
      heardFrame_enabled _ p (by rw [port_setPort_same, hm]), setPort_params]
  have hheld : (u.port p).held = (s.port p).held := by simp [u, v]
  have hlimit : u.params = s.params := by simp [u, v]
  rw [hexec]
  refine ⟨fun hk => ?_, fun hk => ?_, fun hk hh => ?_, fun hk hh => ?_, fun hk => ?_⟩
  · rw [dealByKind_fill u p f hk]
  · rw [dealByKind_hold u p f hk, State.takeHold, hlimit]
  · rw [dealByKind_resume u p f hk, State.takeResume, if_pos (hheld.trans hh)]
  · rw [dealByKind_resume u p f hk, State.takeResume, if_neg (by simp [hheld, hh])]
  · rw [dealByKind_routed u p f hk]

/-- Settles O15: the rows hand their result to the port, and the port deals with it by its state. -/
theorem frameResultsByPortState : Obligations.FrameResultsByPortState := by
  refine ⟨fun s p chars r res hframe => ?_, fun s p res => ?_⟩
  case refine_1 =>
    cases res with
    | valid f => exact execValidFrame_of_frameFrom hframe
    | crcError => exact execCrcError_of_frameFrom hframe
    | lengthError => exact execLengthError_of_frameFrom hframe
  case refine_2 =>
    intro errors hold byKind
    have hkind : ∀ (u : State) (f : LinkFrame), u.params = s.params → u.dealByKind p f = byKind u f := by
      intro u f hparams
      simp only [byKind, hold, ← hparams]
      rfl
    refine ⟨frameResult_unheard s p res, fun hm => ?_, fun hm hrx => ?_⟩
    · have hres := frameResult_enabled s p res hm
      refine ⟨⟨fun he => by rw [hres, he]; rfl, fun he => by rw [hres, he]; rfl⟩, fun f hf => ?_⟩
      rw [hres, hf, State.takeFrame, heardFrame_enabled s p hm, hkind _ f (by simp)]
    · have hres := frameResult_marked s p res hm hrx
      refine ⟨⟨fun he => by rw [hres, he]; rfl, fun he => by rw [hres, he]; rfl⟩, fun f hf => ?_⟩
      rw [hres, hf, State.takeFrame, heardFrame_of_not_enabled _ p (by simp [hm]), hkind _ f (by simp)]

/-! ### Routing and relaying (R22 to R24) -/

theorem addressedHere_iff (s : State) (f : LinkFrame) :
    s.addressedHere f = true ↔ s.mode ≠ .unaddressed ∧ low6 f.dest = s.address.toNat := by
  simp [State.addressedHere]

theorem not_addressedHere {s : State} {f : LinkFrame} (h : s.mode = .unaddressed ∨ low6 f.dest ≠ s.address.toNat) :
    ¬ s.addressedHere f = true := by
  rw [addressedHere_iff]
  exact fun ⟨hm, ha⟩ => h.elim hm (fun hne => hne ha)

/-- Settles O16: a routed frame by its destination and kind, a consumed one by the room for it. -/
theorem routingAndConsumption : Obligations.RoutingAndConsumption := by
  intro s p f
  refine ⟨fun hm ha => ?_, fun hno hall htime => ?_, fun hno hother => ?_, fun hroom => ?_, fun hfull => ?_⟩
  · rw [State.route, if_pos ((addressedHere_iff s f).mpr ⟨hm, ha⟩)]
  · rw [State.route, if_neg (not_addressedHere hno), if_pos ⟨hall, htime⟩]
  · rw [State.route, if_neg (not_addressedHere hno), if_neg (fun ⟨hall, htime⟩ => hother.elim (· hall) (· htime))]
  · exact if_pos hroom
  · exact if_neg (Nat.not_lt.mpr hfull)

theorem fits_iff (s : State) (p : Port) (f : LinkFrame) :
    s.fits p f = true ↔ f.units + usedUnits (s.port p).queue ≤ s.partition p := by
  simp [State.fits]

/-- The relay, its three tests in turn. -/
theorem relay_tests (s : State) (p : Port) (f : LinkFrame) :
    (low6 f.hop = 0 → s.relay p f = s.count (.port p .hopExpired)) ∧
    (low6 f.hop ≠ 0 → (s.port p.other).mode ≠ .enabled → s.relay p f = s.count (.port p .relayBlocked)) ∧
    (low6 f.hop ≠ 0 → (s.port p.other).mode = .enabled →
      s.partition p.other < f.units + usedUnits (s.port p.other).queue →
      s.relay p f = (s.count (.port p .relayDroppedFull)).raise .linkDrop) ∧
    (low6 f.hop ≠ 0 → (s.port p.other).mode = .enabled →
      f.units + usedUnits (s.port p.other).queue ≤ s.partition p.other →
      s.relay p f = s.setQueue p.other ((s.port p.other).queue ++ [{ frame := f.relayed, ownAlert := false }])) := by
  refine ⟨fun hhop => if_pos hhop, fun hhop hm => ?_, fun hhop hm hfull => ?_, fun hhop hm hroom => ?_⟩
  · rw [State.relay, if_neg hhop, if_pos hm]
  · have hno : ¬ s.fits p.other f.relayed = true := fun h => Nat.not_lt.mpr ((fits_iff _ _ _).mp h) hfull
    rw [State.relay, if_neg hhop, if_neg (not_not_intro hm), if_neg hno]
  · have hfits : s.fits p.other f.relayed = true := (fits_iff _ _ _).mpr hroom
    rw [State.relay, if_neg hhop, if_neg (not_not_intro hm), if_pos hfits, State.enqueue, if_pos hfits]

/-- Settles O17: the relay's tests, and a relayed frame of the same length. -/
theorem relayTestsThenAppends : Obligations.RelayTestsThenAppends := by
  intro s p f q g
  obtain ⟨hexpired, hblocked, hfull, hroom⟩ := relay_tests s p f
  cases p <;> exact ⟨hexpired, hblocked, hfull, hroom, rfl, rfl⟩

/-! ### Flow control (R32, R34) -/

section Flow

variable (s : State) (p : Port)

theorem evalFlow_hold (hm : (s.port p).mode = .enabled) (hh : (s.port p).holding = false)
    (hon : (s.params.flow p).on = true) (hfed : (s.params.flow p).onThreshold ≤ s.fedUnits p) :
    s.evalFlow p = s.setPort p { s.port p with holding := true, pendingControl := some .hold
                                               holdRepeat := some (s.params.holdLimit / 2) } := by
  simp [State.evalFlow, hm, hh, hon, hfed]

theorem evalFlow_resume (hm : (s.port p).mode = .enabled) (hh : (s.port p).holding = true)
    (hoff : (s.params.flow p).on = false ∨ s.fedUnits p ≤ (s.params.flow p).offThreshold) :
    s.evalFlow p = s.setPort p { s.port p with holding := false, pendingControl := some .resume
                                               holdRepeat := none } := by
  simp [State.evalFlow, hm, hh, hoff]

theorem evalFlow_of_not_enabled (hm : (s.port p).mode ≠ .enabled) : s.evalFlow p = s := if_neg hm

theorem evalFlow_below (hh : (s.port p).holding = false)
    (hlow : (s.params.flow p).on = false ∨ s.fedUnits p < (s.params.flow p).onThreshold) : s.evalFlow p = s := by
  have hno : ¬ ((s.params.flow p).on = true ∧ (s.params.flow p).onThreshold ≤ s.fedUnits p) := by
    rintro ⟨hon, hfed⟩
    exact hlow.elim (fun hoff => nomatch hon.symm.trans hoff) (fun hlt => Nat.not_lt.mpr hfed hlt)
  simp [State.evalFlow, hh, hno]

theorem evalFlow_above (hh : (s.port p).holding = true) (hon : (s.params.flow p).on = true)
    (hfed : (s.params.flow p).offThreshold < s.fedUnits p) : s.evalFlow p = s := by
  simp [State.evalFlow, hh, hon, Nat.not_le.mpr hfed]

end Flow

/-- Settles O18: flow control by the flag and the fed queue, and a changed queue evaluates the other port. -/
theorem flowControlFollowsQueue : Obligations.FlowControlFollowsQueue := by
  intro s p
  cases p with
  | a => exact ⟨evalFlow_hold s .a, evalFlow_resume s .a, evalFlow_of_not_enabled s .a, evalFlow_below s .a,
      evalFlow_above s .a, fun _ => rfl⟩
  | b => exact ⟨evalFlow_hold s .b, evalFlow_resume s .b, evalFlow_of_not_enabled s .b, evalFlow_below s .b,
      evalFlow_above s .b, fun _ => rfl⟩

/-! ### The port timers and the drain (R30, R31, R33, R36, R38) -/

/-- A FILL is sent when the fill timer has run out and nothing else may be. -/
theorem choice_eq_fill_iff (x : PortState) :
    x.choice = .fill ↔ x.pendingControl = none ∧ (x.queue = [] ∨ x.held = true) ∧ x.fillTimer = some 0 := by
  unfold PortState.choice
  cases x.pendingControl with
  | some c => simp
  | none =>
    cases x.queue with
    | nil => simp
    | cons f rest => cases x.held <;> simp

section Timers

variable (s : State) (p : Port)

theorem execDrainComplete_of_unmarked (hm : (s.port p).mode = .draining) (hrx : (s.port p).rxMarked = false)
    (htx : (s.port p).txMarked = false) :
    execDrainComplete p s = .next (s.setPort p { s.port p with mode := .disabled }).endEvent :=
  if_pos ⟨hm, hrx, htx⟩

theorem fillFrame_setPort (x : PortState) : (s.setPort p x).fillFrame = s.fillFrame := by
  simp [State.fillFrame, State.linkSource]

/-- The fill timer of an ENABLED port runs out; a FILL starts when the port would choose one on its free line. -/
theorem execFillTimerExpiry_of_running (hm : (s.port p).mode = .enabled) (hrun : (s.port p).fillTimer.isSome = true) :
    execFillTimerExpiry p s =
      if (s.port p).sending = none ∧ ({ s.port p with fillTimer := some 0 } : PortState).choice = .fill then
        .next (s.setPort p { s.port p with fillTimer := some 0, sending := some ⟨.fill, s.fillFrame⟩ }).endEvent
      else .next (s.setPort p { s.port p with fillTimer := some 0 }).endEvent := by
  refine (if_pos ⟨hm, hrun⟩).trans ?_
  simp only [port_setPort_same, State.startFill, setPort_setPort, fillFrame_setPort, taken]

theorem execHoldTimerExpiry_of_running (hrun : (s.port p).holdTimer.isSome = true) :
    execHoldTimerExpiry p s = .next (((s.setPort p { s.port p with held := false, holdTimer := none }).count
      (.port p .holdExpiries)).raise .holdExpired).endEvent := by
  obtain ⟨left, hleft⟩ := Option.isSome_iff_exists.mp hrun
  simp only [execHoldTimerExpiry, hleft, taken]

theorem execHoldRepeatExpiry_of_running (hrun : (s.port p).holdRepeat.isSome = true) :
    execHoldRepeatExpiry p s = .next (s.setPort p
      { s.port p with
        holdRepeat := some (s.params.holdLimit / 2)
        pendingControl := if (s.port p).mode = .enabled then some .hold else (s.port p).pendingControl }).endEvent := by
  obtain ⟨left, hleft⟩ := Option.isSome_iff_exists.mp hrun
  simp only [execHoldRepeatExpiry, hleft, taken]

theorem execSilenceTimerExpiry_of_running (hm : (s.port p).mode = .enabled)
    (hrun : (s.port p).silenceTimer.isSome = true) (hhold : (s.port p).held = true ∨ (s.port p).holdTimer = none) :
    execSilenceTimerExpiry p s = .next ((s.setPort p
      { s.port p with silent := true, silenceTimer := none, held := false, holdTimer := none }).raise
        .neighborSilent).endEvent := by
  have hstop : (if (s.port p).held then none else (s.port p).holdTimer) = none := by
    rcases hhold with h | h <;> simp [h]
  unfold execSilenceTimerExpiry
  simp only [hm, hrun, and_self, if_true, hstop, taken]

end Timers

/-- Settles O20: each row by the timer that runs or the marks that stand. -/
theorem portTimersAndDrain : Obligations.PortTimersAndDrain := by
  refine ⟨fun s p hm => ⟨execDrainComplete_of_unmarked s p hm, fun h => execDrainComplete_of_not s p (.inr h)⟩, fun s p => ?_⟩
  intro x src
  refine ⟨fun hm hrun hfree hpending hqueue => ?_, fun hm hrun hbusy => ?_, execHoldTimerExpiry_of_running s p,
    execHoldRepeatExpiry_of_running s p, execSilenceTimerExpiry_of_running s p⟩
  · exact (execFillTimerExpiry_of_running s p hm hrun).trans
      (if_pos ⟨hfree, (choice_eq_fill_iff _).mpr ⟨hpending, hqueue, rfl⟩⟩)
  · refine (execFillTimerExpiry_of_running s p hm hrun).trans (if_neg ?_)
    rintro ⟨hfree, hfill⟩
    obtain ⟨hpending, hqueue, _⟩ := (choice_eq_fill_iff _).mp hfill
    rcases hbusy with hsending | hcontrol | ⟨hne, hheld⟩
    · exact hsending hfree
    · exact hcontrol hpending
    · exact hqueue.elim hne (fun h => nomatch hheld.symm.trans h)

end Sys2Proof.CorridorPorts
end

section
/-! PORT CONTROL: each action with its REPLY, and what a RESET counts (R37, R39, R40, R184). -/

namespace Sys2Proof.CorridorPorts

open Sys2Proof.Machine Sys2Proof.Safety Sys2Proof.Laws Sys2Proof.LineFormats

/-! ### The request -/

@[simp] theorem port_afterTake (s : State) (rest : List InboundFrame) (p : Port) :
    (afterTake s rest).port p = s.port p := by
  cases p <;> rfl

/-- The row of a PORT CONTROL, by its action (log 9). -/
theorem rowOf_portControl {s : State} {x : InboundFrame} {rest : List InboundFrame} (h : RequestAtHead s x rest 0x09) :
    rowOf x.frame = if byteAt x.frame.body 2 = 1 then .portEnable
      else if byteAt x.frame.body 2 = 2 then .portReset else .portDisable := by
  obtain ⟨_, hkind, hcode⟩ := h
  rw [rowOf_request x.frame hkind, requestRow, hcode]
  rfl

/-- A PORT CONTROL at the head whose action is the row's acts at its port and is answered with the action's status. -/
theorem portControl_answered {s : State} {x : InboundFrame} {rest : List InboundFrame} {p : Port}
    (h : RequestAtHead s x rest 0x09) (hlen : 3 ≤ x.frame.body.length) (hport : portOfCode (byteAt x.frame.body 1) = some p)
    (row : HandlerRow) (action : Nat) (act : Port → State → State × Status) (haction : byteAt x.frame.body 2 = action)
    (hrow : (if action = 1 then HandlerRow.portEnable else if action = 2 then .portReset else .portDisable) = row) :
    request row (portControl action act) s =
      .next (answered (act p (afterTake s rest)).1 x (.plain (act p (afterTake s rest)).2)) := by
  have hcarry : portControl action act x.frame.body (afterTake s rest) =
      ((act p (afterTake s rest)).1, .plain (act p (afterTake s rest)).2) := by
    rw [portControl, if_neg (by simp [haction, hlen]), hport]
  have hrowOf : rowOf x.frame = row := by rw [rowOf_portControl h, haction, hrow]
  refine (request_of_head row _ s x rest h.1 hrowOf).trans ?_
  change Host.Outcome.next (answered (portControl action act x.frame.body (afterTake s rest)).1 x
    (portControl action act x.frame.body (afterTake s rest)).2) = _
  rw [hcarry]

/-! ### Counting without a wrap (R192) -/

theorem get_put_same (cs : Counters) (ref : CounterRef) (v : Count) : (cs.put ref v).get ref = v := by
  cases ref with
  | port p c => cases p <;> simp [Counters.get, Counters.put]
  | loc | beacon | approach | controller | notice => simp [Counters.get, Counters.put]

theorem put_put_same (cs : Counters) (ref : CounterRef) (v w : Count) : (cs.put ref v).put ref w = cs.put ref w := by
  cases ref with
  | port p c => cases p <;> simp [Counters.put]
  | loc | beacon | approach | controller | notice => simp [Counters.put]

theorem put_get_same (cs : Counters) (ref : CounterRef) : cs.put ref (cs.get ref) = cs := by
  cases ref with
  | port p c => cases p <;> simp [Counters.get, Counters.put]
  | loc | beacon | approach | controller | notice => simp [Counters.get, Counters.put]

theorem count_of_no_wrap (s : State) (ref : CounterRef) (h : (s.counters.get ref).toNat + 1 < 4294967296) :
    s.count ref = { s with counters := s.counters.put ref (s.counters.get ref + 1) } := by
  have hne : s.counters.get ref + 1 ≠ 0 := by
    intro h0
    have htoNat := congrArg BitVec.toNat h0
    rw [BitVec.toNat_add] at htoNat
    change ((s.counters.get ref).toNat + 1) % 4294967296 = 0 at htoNat
    omega
  unfold State.count
  dsimp only
  rw [if_neg hne]

/-! ### A RESET (R40) -/

/-- A state whose counter `ref` has risen by `n` and whose alert count has fallen by `m`. -/
def countedDown (s : State) (ref : CounterRef) (n m : Nat) : State :=
  { s with counters := s.counters.put ref (s.counters.get ref + BitVec.ofNat 32 n), alertCount := s.alertCount - m }

theorem flushFrame_of_no_wrap (s : State) (p : Port) (f : QueuedFrame)
    (h : (s.counters.get (.port p .flushed)).toNat + 1 < 4294967296) :
    s.flushFrame p f = countedDown s (.port p .flushed) 1 (if f.ownAlert then 1 else 0) := by
  unfold State.flushFrame
  rw [count_of_no_wrap s _ h]
  cases f.ownAlert <;> rfl

theorem countedDown_countedDown (s : State) (ref : CounterRef) (n m n' m' : Nat) :
    countedDown (countedDown s ref n m) ref n' m' = countedDown s ref (n + n') (m + m') := by
  simp only [countedDown, get_put_same, put_put_same, BitVec.add_assoc, ← BitVec.ofNat_add, Nat.sub_sub]

/-- The frames of a flushed queue raise FLUSHED by their number and lower the alert count by this engine's ALERTs. -/
theorem flushed_eq (p : Port) (q : List QueuedFrame) (s : State)
    (h : (s.counters.get (.port p .flushed)).toNat + q.length < 4294967296) :
    forEach q (fun f t => t.flushFrame p f) s = countedDown s (.port p .flushed) q.length (ownAlerts q) := by
  induction q generalizing s with
  | nil =>
    change s = { s with counters := s.counters.put _ (s.counters.get _ + 0#32), alertCount := s.alertCount - 0 }
    rw [BitVec.add_zero, put_get_same, Nat.sub_zero]
  | cons f rest ih =>
    rw [List.length_cons] at h
    have hone : (s.counters.get (.port p .flushed)).toNat + 1 < 4294967296 := by omega
    have hrise : ((countedDown s (.port p .flushed) 1 (if f.ownAlert then 1 else 0)).counters.get
        (.port p .flushed)).toNat = (s.counters.get (.port p .flushed)).toNat + 1 := by
      rw [countedDown, get_put_same, BitVec.toNat_add]
      exact Nat.mod_eq_of_lt hone
    rw [forEach_cons, flushFrame_of_no_wrap s p f hone, ih _ (by omega), countedDown_countedDown, ownAlerts_cons,
      List.length_cons, Nat.add_comm 1]

theorem port_countedDown (s : State) (ref : CounterRef) (n m : Nat) (p : Port) :
    (countedDown s ref n m).port p = s.port p := by
  cases p <;> rfl

/-- A RESET of a DISABLED port, whole. -/
theorem resetPort_eq (s : State) (p : Port) (hm : (s.port p).mode = .disabled)
    (h : (s.counters.get (.port p .flushed)).toNat + (s.port p).queue.length < 4294967296) :
    s.resetPort p =
      (((countedDown s (.port p .flushed) (s.port p).queue.length (ownAlerts (s.port p).queue)).setPort p
        { cleared (s.port p) with queue := [] }).evalFlow p.other, .done) := by
  rw [resetPort_disabled s p hm, flushed_eq p _ s h]
  simp only [State.setQueue, port_setPort_same, setPort_setPort, port_countedDown]

theorem resetPort_refused (s : State) (p : Port) (hm : (s.port p).mode ≠ .disabled) :
    s.resetPort p = (s, .badState) := if_neg hm

/-- Settles O21: each action at its port, then its REPLY. -/
theorem portControlActions : Obligations.PortControlActions := by
  refine ⟨fun s x rest p hhead hlen hport => ?_, fun s x rest p hhead hlen hport haction => ?_⟩
  case refine_1 =>
    intro u y rx tx
    have hy : u.port p = y := port_afterTake s rest p
    have hdisable := fun hact => portControl_answered hhead hlen hport .portDisable 0 (fun p t => t.disablePort p) hact rfl
    have henable := fun hact => portControl_answered hhead hlen hport .portEnable 1 (fun p t => t.enablePort p) hact rfl
    refine ⟨fun hact hm => (hdisable hact).trans ?_, fun hact hm => (hdisable hact).trans ?_,
      fun hact hm => (henable hact).trans ?_, fun hact hm => (henable hact).trans ?_⟩
    · rw [State.disablePort, if_pos (by rw [port_afterTake, hm]), port_afterTake]
    · rw [State.disablePort, if_neg (by rwa [port_afterTake])]
    · rw [State.enablePort, if_neg (by rwa [port_afterTake]), port_afterTake]
      rfl
    · rw [State.enablePort, if_pos (by rw [port_afterTake, hm])]
  case refine_2 =>
    intro u y n ref
    have hreset := portControl_answered hhead hlen hport .portReset 2 (fun p t => t.resetPort p) haction rfl
    refine ⟨fun hm hwrap => hreset.trans ?_, fun hm => hreset.trans ?_⟩
    · rw [resetPort_eq _ p (by rwa [port_afterTake]) (by rwa [port_afterTake]), port_afterTake]
      cases p <;> rfl
    · rw [resetPort_refused _ p (by rwa [port_afterTake])]

end Sys2Proof.CorridorPorts
end

section
/-! A PARAMS write: its tests, the partitions of a new split, and what it does when it passes (R27, R63, R76 to R78). -/

namespace Sys2Proof.CorridorPorts

open Sys2Proof.Machine Sys2Proof.Safety Sys2Proof.Laws

/-! ### Checks and tests (R63) -/

/-- A check as a test: the value of its code and its index. -/
def testOf (c : Check) : Test := (c.1, c.2.1.value, c.2.2)

/-- The first test that fails is the first failure of the checks. -/
theorem firstFailure_of_firstFails {checks : List Check} {code index : Nat}
    (h : FirstFails (checks.map testOf) code index) :
    ∃ f, firstFailure checks = some f ∧ Answer.inconsistent f = refusedBy code index := by
  rw [FirstFails, List.find?_map, Option.map_eq_some_iff] at h
  obtain ⟨c, hc, htest⟩ := h
  injection htest with _ htest
  injection htest with hcode hindex
  refine ⟨c.2, ?_, by rw [Answer.inconsistent, hcode, hindex]; rfl⟩
  rw [firstFailure, Option.map_eq_some_iff]
  exact ⟨c, hc, rfl⟩

theorem firstFailure_of_allPass {checks : List Check} (h : AllPass (checks.map testOf)) : firstFailure checks = none := by
  rw [firstFailure, Option.map_eq_none_iff, List.find?_eq_none]
  intro c hc
  rw [show c.1 = false from h (testOf c) (List.mem_map_of_mem hc)]
  exact Bool.false_ne_true

/-- The tests of R76 are the checks of the model. -/
theorem paramsTests_eq (s : State) (x : RawParams) : paramsTests s x = (s.paramsChecks x).map testOf := by
  simp only [paramsTests, State.paramsChecks, mapDuplicates, List.map_append, List.map_map, List.map_cons, List.map_nil]
  rfl

/-! ### The partitions of a new split (R27, R77) -/

theorem splitInUse_iff (s : State) (split : Nat) :
    s.splitInUse split = true ↔ split < usedUnits s.portB.queue ∨ 192 - split < usedUnits s.portA.queue := by
  rw [State.splitInUse, Bool.or_eq_true, decide_eq_true_iff, decide_eq_true_iff]
  exact Iff.rfl

section PartitionTests

variable (s : State) (x : RawParams)

theorem partitionTests_inUse (h : x.split ≠ s.params.split ∧ s.splitInUse x.split = true) :
    s.partitionTests x = some (.plain .inUse) := if_pos h

theorem partitionTests_fits (h : ¬ (x.split ≠ s.params.split ∧ s.splitInUse x.split = true)) :
    s.partitionTests x =
      if x.split < x.onThresholdA then some (refusedBy 0x08 0)
      else if 192 - x.split < x.onThresholdB then some (refusedBy 0x08 1) else none := by
  rw [State.partitionTests, if_neg h, firstFailure, thresholdChecks]
  by_cases ha : x.split < x.onThresholdA
  · simp [List.find?, partitionOf, ha]
    rfl
  · by_cases hb : 192 - x.split < x.onThresholdB
    · simp [List.find?, partitionOf, Config.frameStoreUnits, ha, hb]
      rfl
    · simp [List.find?, partitionOf, Config.frameStoreUnits, ha, hb]

end PartitionTests

/-! ### The write -/

section WriteParams

variable (s : State) (contents : List Byte)

theorem writeParams_failed {f : Failure} (h : firstFailure (s.paramsChecks (.ofBytes contents)) = some f) :
    s.writeParams contents = (s, .inconsistent f) := by
  simp only [State.writeParams, h]

theorem writeParams_refused {a : Answer} (h : firstFailure (s.paramsChecks (.ofBytes contents)) = none)
    (hp : s.partitionTests (.ofBytes contents) = some a) : s.writeParams contents = (s, a) := by
  simp only [State.writeParams, h, hp]

theorem writeParams_passed (h : firstFailure (s.paramsChecks (.ofBytes contents)) = none)
    (hp : s.partitionTests (.ofBytes contents) = none) :
    s.writeParams contents =
      ((((s.storeParams (RawParams.ofBytes contents).entry).flowAfter s.params .a).flowAfter s.params .b).markDue,
        .written (s.tableGens.params + 1)) := by
  simp only [State.writeParams, h, hp]

end WriteParams

theorem flowAfter_params (s : State) (old : Params) (p : Port) : (s.flowAfter old p).params = s.params := by
  rw [flowAfter_frame]

/-- Settles O50: the contents' tests, then the partitions', then the write and the flow control of each changed port. -/
theorem paramsWritesChecked : Obligations.ParamsWritesChecked := by
  intro s force contents x tests written tooFull e u v w
  have hwritten : written = s.writeParams contents := rfl
  have htests : tests = (s.paramsChecks x).map testOf := paramsTests_eq s x
  have hpass (h : AllPass tests) : firstFailure (s.paramsChecks x) = none := firstFailure_of_allPass (htests ▸ h)
  have hfull : tooFull ↔ x.split ≠ s.params.split ∧ s.splitInUse x.split = true :=
    and_congr_right fun _ => (splitInUse_iff s x.split).symm
  have hfits (h : ¬ tooFull) := partitionTests_fits s x (mt hfull.mpr h)
  rw [hwritten]
  refine ⟨fun code index h => ?_, fun h hin => ?_, fun h hroom ha => ?_, fun h hroom ha hb => ?_,
    fun h hroom ha hb => ?_⟩
  · obtain ⟨f, hf, hanswer⟩ := firstFailure_of_firstFails (htests ▸ h)
    rw [writeParams_failed s contents hf, hanswer]
  · exact writeParams_refused s contents (hpass h) (partitionTests_inUse s x (hfull.mp hin))
  · exact writeParams_refused s contents (hpass h) ((hfits hroom).trans (if_pos ha))
  · refine writeParams_refused s contents (hpass h) ((hfits hroom).trans ?_)
    rw [if_neg (Nat.not_lt.mpr ha), if_pos hb]
  · have hnone : s.partitionTests x = none := by
      rw [hfits hroom, if_neg (Nat.not_lt.mpr ha), if_neg (Nat.not_lt.mpr hb)]
    have hv : u.flowAfter s.params .a = v := rfl
    have hw : v.flowAfter s.params .b = w := by
      have hparams : v.params = e := hv ▸ flowAfter_params u s.params .a
      rw [State.flowAfter, hparams]
      rfl
    exact (writeParams_passed s contents (hpass h) hnone).trans (by rw [← hw, ← hv]; rfl)

end Sys2Proof.CorridorPorts
end

section
/-! The idle step: the events that are due, and one tenth (R28 to R38, R104 to R106, R133, R142, R154 to R158, R175,
R176; logs 4, 9 and 22). -/

namespace Sys2Proof.CorridorPorts

open Sys2Proof.Machine Sys2Proof.Safety Sys2Proof.Laws Sys2Proof.LineFormats

/-! ### The pick of a due event, and one tenth -/

/-- The free value always picks one of the events that are due. -/
theorem pick_mem (choice : Nat) {events : List Instr} (h : events ≠ []) :
    ∃ c ∈ events, pick choice events = some c := by
  have hlt : choice % events.length < events.length := Nat.mod_lt _ (List.length_pos_of_ne_nil h)
  exact ⟨events[choice % events.length], List.getElem_mem hlt, List.getElem?_eq_getElem hlt⟩

theorem step_idle (s : State) (h : s.pending = []) : step s = .next s.idle := by
  unfold step
  rw [h]

theorem mapVector_getElem {α β : Type} {n : Nat} (f : α → β) (v : Vector α n) (i : Fin n) :
    (mapVector f v)[i] = f v[i] := by
  simp [mapVector]

theorem record_countTenth (s : State) (r : Fin 24) : s.countTenth.record r = (s.record r).map Record.tick :=
  mapVector_getElem _ s.records r

theorem lockout_countTenth (s : State) (ap : Fin 8) : s.countTenth.lockout ap = countDown (s.lockout ap) :=
  mapVector_getElem _ s.lockouts ap

theorem slotTimer_countTenth (s : State) (k : Fin 4) :
    s.countTenth.slotTimer k = (s.slotTimer k).map (fun t => { t with left := t.left - 1 }) :=
  mapVector_getElem _ s.slotTimers k

theorem port_countTenth (s : State) (p : Port) : s.countTenth.port p = (s.port p).tick := by
  cases p <;> rfl

/-! ### The lists of due events -/

@[simp] theorem mem_dueIf (due : Bool) (c d : Instr) : c ∈ dueIf due d ↔ due = true ∧ c = d := by
  cases due <;> simp [dueIf]

theorem mem_bothPorts (p : Port) : p ∈ bothPorts := by
  cases p <;> simp [bothPorts]

/-- A free ENABLED line has a frame to start: a control frame, or the head of a queue that is not held. -/
theorem choice_starts_iff (x : PortState) :
    ((∃ c, x.choice = .control c) ∨ ∃ f, x.choice = .queued f) ↔
      x.pendingControl ≠ none ∨ (x.queue ≠ [] ∧ x.held = false) := by
  unfold PortState.choice
  cases x.pendingControl with
  | some c => simp
  | none =>
    cases x.queue with
    | nil => cases h : decide (x.fillTimer = some 0) <;> simp_all
    | cons f rest => cases x.held <;> simp; split <;> simp

theorem mem_dueStart (s : State) (p : Port) (c : Instr) :
    c ∈ s.dueStart p ↔ (s.port p).mode = .enabled ∧ (s.port p).sending = none ∧
      (((∃ d, (s.port p).choice = .control d) ∨ ∃ f, (s.port p).choice = .queued f) ∧ c = .txStart p ∨
        (s.port p).choice = .fill ∧ c = .fillTimerExpiry p) := by
  unfold State.dueStart
  dsimp only
  split
  case isTrue h => cases (s.port p).choice <;> simp [h]
  case isFalse h =>
    simp only [List.not_mem_nil, false_iff]
    exact fun ⟨hm, hfree, _⟩ => h ⟨hm, hfree⟩

theorem mem_dueHandler (s : State) (c : Instr) :
    c ∈ s.dueHandler ↔ ∃ x rest, s.inbound = x :: rest ∧ (rowOf x.frame).command = c := by
  unfold State.dueHandler
  cases s.inbound with
  | nil => simp
  | cons x rest => simp [eq_comm]

/-! ### The engine's own events -/

/-- Whether an event is the engine's own and no row of the local frame handler. -/
def isOwn : Instr → Bool
  | .holdTimerExpiry _ | .holdRepeatExpiry _ | .silenceTimerExpiry _ | .frameTxEnd _ | .drainComplete _ => true
  | .txStart _ | .fillTimerExpiry _ | .reportTake | .evaluation | .messageTxEnd => true
  | .lifetimeExpiry _ | .holdOffExpiry _ => true
  | .lockoutExpiry _ | .responseTimeout _ | .startLimitExpiry _ | .serviceLimitExpiry _ | .phaseAgeExpiry => true
  | _ => false

/-- When an event of the engine's own is due. -/
def ownDue (s : State) : Instr → Prop
  | .holdTimerExpiry p => (s.port p).holdTimer = some 0
  | .holdRepeatExpiry p => (s.port p).holdRepeat = some 0
  | .silenceTimerExpiry p => (s.port p).mode = .enabled ∧ (s.port p).silenceTimer = some 0
  | .frameTxEnd p => (s.port p).sending ≠ none
  | .drainComplete p => (s.port p).mode = .draining ∧ (s.port p).rxMarked = false ∧ (s.port p).txMarked = false
  | .txStart p => (s.port p).mode = .enabled ∧ (s.port p).sending = none ∧
      ((s.port p).pendingControl ≠ none ∨ ((s.port p).queue ≠ [] ∧ (s.port p).held = false))
  | .fillTimerExpiry p => (s.port p).mode = .enabled ∧ (s.port p).sending = none ∧ (s.port p).pendingControl = none ∧
      ((s.port p).queue = [] ∨ (s.port p).held = true) ∧ (s.port p).fillTimer = some 0
  | .reportTake => ∃ l : Fin 8, (s.line l).buffer ≠ none
  | .evaluation => s.mode = .active ∧ s.evalDue = true
  | .messageTxEnd => s.output ≠ []
  | .lifetimeExpiry r => ∃ x ∈ s.record r, x.lifetime = 0
  | .holdOffExpiry r => ∃ x ∈ s.record r, x.holdOff = some 0
  | .lockoutExpiry ap => s.lockout ap = some 0
  | .responseTimeout k => s.slotTimer k = some { kind := .response, left := 0 }
  | .startLimitExpiry k => s.slotTimer k = some { kind := .startLimit, left := 0 }
  | .serviceLimitExpiry k => s.slotTimer k = some { kind := .serviceLimit, left := 0 }
  | .phaseAgeExpiry => s.controller.phaseKnown = true ∧ 30 ≤ s.controller.phaseAge
  | _ => False

theorem command_not_own (row : HandlerRow) : isOwn row.command = false := by
  cases row <;> rfl

/-- The engine's own events at a port, of a record and of a slot's timer. -/
def portEvents (p : Port) : List Instr :=
  [.holdTimerExpiry p, .holdRepeatExpiry p, .silenceTimerExpiry p, .frameTxEnd p, .drainComplete p, .txStart p,
   .fillTimerExpiry p]
def recordEvents (r : Fin 24) : List Instr := [.lifetimeExpiry r, .holdOffExpiry r]
def slotEvents (k : Fin 4) : List Instr := [.responseTimeout k, .startLimitExpiry k, .serviceLimitExpiry k]

theorem mem_duePort (s : State) (p : Port) (c : Instr) : c ∈ s.duePort p ↔ ownDue s c ∧ c ∈ portEvents p := by
  simp only [portEvents, List.mem_cons, List.not_mem_nil, or_false, State.duePort, List.mem_append, mem_dueIf, mem_dueStart, decide_eq_true_eq, choice_starts_iff,
    choice_eq_fill_iff]
  constructor
  · rintro (((((⟨h, rfl⟩ | ⟨h, rfl⟩) | ⟨h, rfl⟩) | ⟨h, rfl⟩) | ⟨h, rfl⟩) | ⟨hm, hfree, (⟨h, rfl⟩ | ⟨h, rfl⟩)⟩)
    · simp [ownDue, h]
    · simp [ownDue, h]
    · simp [ownDue, h]
    · simp [ownDue, Option.isSome_iff_ne_none.mp h]
    · simp [ownDue, h]
    · exact ⟨⟨hm, hfree, h⟩, by simp⟩
    · exact ⟨⟨hm, hfree, h⟩, by simp⟩
  · rintro ⟨h, (rfl | rfl | rfl | rfl | rfl | rfl | rfl)⟩
    all_goals simpa [ownDue, Option.isSome_iff_ne_none] using h

theorem mem_dueRecord (s : State) (r : Fin 24) (c : Instr) :
    c ∈ s.dueRecord r ↔ ownDue s c ∧ c ∈ recordEvents r := by
  simp only [recordEvents, List.mem_cons, List.not_mem_nil, or_false]
  unfold State.dueRecord
  cases hx : s.record r with
  | none =>
    simp only [List.not_mem_nil, false_iff]
    rintro ⟨h, rfl | rfl⟩ <;> simp [ownDue, hx] at h
  | some x =>
    simp only [List.mem_append, mem_dueIf, decide_eq_true_eq]
    constructor
    · rintro (⟨h, rfl⟩ | ⟨h, rfl⟩)
      · exact ⟨⟨x, hx, h⟩, .inl rfl⟩
      · exact ⟨⟨x, hx, h⟩, .inr rfl⟩
    · rintro ⟨h, rfl | rfl⟩
      · exact .inl ⟨by simpa [ownDue, hx] using h, rfl⟩
      · exact .inr ⟨by simpa [ownDue, hx] using h, rfl⟩

theorem mem_dueSlot (s : State) (k : Fin 4) (c : Instr) : c ∈ s.dueSlot k ↔ ownDue s c ∧ c ∈ slotEvents k := by
  simp only [slotEvents, List.mem_cons, List.not_mem_nil, or_false]
  unfold State.dueSlot
  cases ht : s.slotTimer k with
  | none =>
    simp only [List.not_mem_nil, false_iff]
    rintro ⟨h, rfl | rfl | rfl⟩ <;> simp [ownDue, ht] at h
  | some t =>
    obtain ⟨kind, left⟩ := t
    simp only [mem_dueIf, decide_eq_true_eq]
    constructor
    · rintro ⟨rfl, rfl⟩
      cases kind <;> simp [SlotTimerKind.command, ownDue, ht]
    · rintro ⟨h, rfl | rfl | rfl⟩ <;> simp_all [SlotTimerKind.command, ownDue]

/-- The due events are the engine's own, each when its condition holds, and the take of the head of the local inbound
queue. -/
theorem mem_due (s : State) (c : Instr) : c ∈ s.due ↔ ownDue s c ∨ c ∈ s.dueHandler := by
  have hport (p : Port) (h : ownDue s c) (hc : c ∈ portEvents p) : ∃ p ∈ bothPorts, c ∈ s.duePort p :=
    ⟨p, mem_bothPorts p, (mem_duePort s p c).mpr ⟨h, hc⟩⟩
  have hrecord (r : Fin 24) (h : ownDue s c) (hc : c ∈ recordEvents r) : ∃ r ∈ recordSlots, c ∈ s.dueRecord r :=
    ⟨r, List.mem_finRange r, (mem_dueRecord s r c).mpr ⟨h, hc⟩⟩
  have hslot (k : Fin 4) (h : ownDue s c) (hc : c ∈ slotEvents k) : ∃ k ∈ callSlots, c ∈ s.dueSlot k :=
    ⟨k, List.mem_finRange k, (mem_dueSlot s k c).mpr ⟨h, hc⟩⟩
  simp only [State.due, List.mem_append, List.mem_flatMap, mem_dueIf]
  constructor
  · rintro ((((((((⟨p, _, h⟩ | ⟨h, rfl⟩) | h) | ⟨h, rfl⟩) | ⟨h, rfl⟩) | ⟨r, _, h⟩) | ⟨ap, _, h, rfl⟩) | ⟨k, _, h⟩) |
      ⟨h, rfl⟩)
    · exact .inl ((mem_duePort s p c).mp h).1
    · refine .inl ?_
      simpa [ownDue, lineNumbers, Option.isSome_iff_ne_none] using h
    · exact .inr h
    · exact .inl (by simpa [ownDue] using h)
    · exact .inl (by simpa [ownDue] using h)
    · exact .inl ((mem_dueRecord s r c).mp h).1
    · exact .inl (by simpa [ownDue] using h)
    · exact .inl ((mem_dueSlot s k c).mp h).1
    · have hage : s.controller.phaseKnown = true ∧ Config.phaseAgeLimit ≤ s.controller.phaseAge :=
        of_decide_eq_true h
      exact .inl hage
  · rintro (h | h)
    · cases c with
      | holdTimerExpiry p | holdRepeatExpiry p | silenceTimerExpiry p | frameTxEnd p | drainComplete p | txStart p
      | fillTimerExpiry p => simp [hport p h (by simp [portEvents])]
      | lifetimeExpiry r | holdOffExpiry r => simp [hrecord r h (by simp [recordEvents])]
      | responseTimeout k | startLimitExpiry k | serviceLimitExpiry k => simp [hslot k h (by simp [slotEvents])]
      | lockoutExpiry ap =>
        have hlockout : s.lockout ap = some 0 := h
        simp [approachNumbers, hlockout]
      | reportTake =>
        have hbuffer : ∃ l : Fin 8, (s.line l).buffer.isSome = true := by
          simpa [ownDue, Option.isSome_iff_ne_none] using h
        simp [lineNumbers, hbuffer]
      | evaluation =>
        have hdue : s.mode = .active ∧ s.evalDue = true := h
        simp [hdue]
      | messageTxEnd =>
        have houtput : s.output ≠ [] := h
        simp [houtput]
      | phaseAgeExpiry =>
        have hage : s.controller.phaseKnown = true ∧ Config.phaseAgeLimit ≤ s.controller.phaseAge := h
        simp [hage]
      | _ => exact h.elim
    · simp [h]

/-- An event of the engine's own is due when its condition holds: no handler row is one. -/
theorem mem_due_own {c : Instr} (hown : isOwn c = true) (s : State) : c ∈ s.due ↔ ownDue s c := by
  rw [mem_due, or_iff_left]
  rw [mem_dueHandler]
  rintro ⟨x, _, _, hx⟩
  have hrow := command_not_own (rowOf x.frame)
  rw [hx, hown] at hrow
  exact nomatch hrow

/-- Any other command is due as the row of the frame at the head. -/
theorem mem_due_row {c : Instr} (hown : isOwn c = false) (s : State) :
    c ∈ s.due ↔ ∃ x rest, s.inbound = x :: rest ∧ (rowOf x.frame).command = c := by
  rw [mem_due, mem_dueHandler, or_iff_right]
  cases c with
  | holdTimerExpiry | holdRepeatExpiry | silenceTimerExpiry | frameTxEnd | drainComplete | txStart | fillTimerExpiry
  | reportTake | evaluation | messageTxEnd | lifetimeExpiry | holdOffExpiry | lockoutExpiry | responseTimeout
  | startLimitExpiry | serviceLimitExpiry | phaseAgeExpiry => exact nomatch hown
  | _ => exact False.elim

/-! ### The row of a frame (R175, R177) -/

theorem rowOf_unknownKind {f : LinkFrame} (h : f.kind.toNat < 3 ∨ 5 < f.kind.toNat) : rowOf f = .unknownKind := by
  have hne (k : Byte) (hk : 3 ≤ k.toNat ∧ k.toNat ≤ 5) : f.kind ≠ k := by
    rintro rfl
    omega
  rw [rowOf, if_neg (hne _ (by decide)), if_neg (hne _ (by decide)), if_neg (hne _ (by decide))]

/-- Settles O2: a pick of the due events or a tenth, what a tenth counts, when each event is due, and the row of a frame. -/
theorem emptyQueueStepOrTenth : Obligations.EmptyQueueStepOrTenth := by
  refine ⟨fun s => ⟨fun hempty hnone => ?_, fun hempty hdue => ?_, fun htime => ?_, fun htime => ?_,
    record_countTenth s, lockout_countTenth s, slotTimer_countTenth s, port_countTenth s, rfl⟩, fun s c => ?_,
    fun f => ?_⟩
  · rw [step_idle s hempty, State.idle, hnone]
    rfl
  · obtain ⟨c, hc, hpick⟩ := pick_mem (Config.freeChoice s.freeCount) hdue
    refine ⟨c, hc, ?_⟩
    rw [step_idle s hempty, State.idle, hpick]
  · exact if_neg (Nat.not_le.mpr htime)
  · exact if_pos htime
  · cases c with
    | holdTimerExpiry | holdRepeatExpiry | silenceTimerExpiry | frameTxEnd | drainComplete | txStart | fillTimerExpiry
    | reportTake | evaluation | messageTxEnd | lifetimeExpiry | holdOffExpiry | lockoutExpiry | responseTimeout
    | startLimitExpiry | serviceLimitExpiry | phaseAgeExpiry => exact mem_due_own rfl s
    | _ => exact mem_due_row rfl s
  · intro c
    refine ⟨fun hk => ?_, fun hk => ?_, fun hk => ?_, fun hk => ?_⟩
    · simp [c, rowOf, hk, kindTime, HandlerRow.command]
    · simp [c, rowOf, hk, kindTime, kindNotice, HandlerRow.command]
    · simp [c, rowOf_unknownKind hk, HandlerRow.command]
    · have hc : c = (requestRow f.body).command := congrArg HandlerRow.command (rowOf_request f hk)
      rw [hc]
      unfold requestRow
      generalize byteAt f.body 0 = code
      match code with
      | 9 =>
        refine (apply_ite HandlerRow.command _ _ _).trans (congrArg _ ?_)
        exact apply_ite HandlerRow.command _ _ _
      | 10 => exact apply_ite HandlerRow.command _ _ _
      | 0 | 1 | 2 | 3 | 4 | 5 | 6 | 7 | 8 | 11 | 12 | 13 | 14 => rfl
      | _ + 15 => rfl

end Sys2Proof.CorridorPorts
end

section
/-! Reports that end on a beacon line, by the line's state and the report's class (R44 to R49, R53). -/

namespace Sys2Proof.BeaconLines

open Sys2Proof.Machine Sys2Proof.Safety Sys2Proof.Laws Sys2Proof.LineFormats Sys2Proof.CorridorPorts

/-! ### The mark a judged report carries (R44) -/

/-- A report judged clean carries its suspect field clear, and one judged a parity fault carries it set. -/
theorem suspect_of_judge (l : Fin 8) (raw : RawReport) (rep : Report) :
    (judge l raw = .clean rep → rep.suspect = false) ∧ (judge l raw = .parity rep → rep.suspect = true) := by
  cases hframing : raw.framingMark with
  | true => simp [judge_framing l raw hframing]
  | false =>
    cases hread : readReport l raw.parityMark raw.chars with
    | none => simp [judge_checksum l raw hframing hread]
    | some read =>
      have hmark : read.suspect = raw.parityMark := suspect_of_readReport hread
      rw [judge_valid l raw read hframing hread]
      split
      case isTrue hparity => exact ⟨nofun, fun h => ReportClass.parity.inj h ▸ hmark.trans hparity⟩
      case isFalse hparity =>
        exact ⟨fun h => ReportClass.clean.inj h ▸ hmark.trans (Bool.eq_false_of_not_eq_true hparity), nofun⟩

/-! ### The holding buffer (R48) -/

section Offers

variable (s : State) (l : Fin 8) (rep : Report)

theorem offerReport_of_empty (h : (s.line l).buffer = none) :
    s.offerReport l rep = s.setLine l { s.line l with buffer := some rep } :=
  if_pos (by rw [h]; rfl)

theorem offerReport_of_full (h : (s.line l).buffer ≠ none) :
    s.offerReport l rep = (s.count (.beacon l .overruns)).raise .beaconOverrun :=
  if_neg (by simpa using h)

theorem offerSuspect_of_empty (h : (s.line l).buffer = none) :
    s.offerSuspect l rep = (s.offerReport l rep).count (.beacon l .suspectAccepted) :=
  if_pos (by rw [h]; rfl)

theorem offerSuspect_of_full (h : (s.line l).buffer ≠ none) : s.offerSuspect l rep = s.offerReport l rep :=
  if_neg (by simpa using h)

end Offers

/-! ### A report by its class (R45, R46, R47) -/

section Ends

variable (s : State) (l : Fin 8)

theorem dealReport_parity_refused (rep : Report) (h : (s.lineSetting l).suspectAccept = false) :
    s.dealReport l (.parity rep) = (s.count (.beacon l .parityErr)).faulted l :=
  if_neg (by simp [h])

theorem dealReport_parity_accepted (rep : Report) (h : (s.lineSetting l).suspectAccept = true) :
    s.dealReport l (.parity rep) = (s.count (.beacon l .parityErr)).offerSuspect l rep :=
  if_pos h

/-- A REPORT_COMPLETE that ends a report on an ENABLED line deals with it by its class, the assembler in SEEK. -/
theorem exec_reportComplete_enabled (chars : List BeaconChar) (raw : RawReport) (hmode : (s.line l).mode = .enabled)
    (hraw : s.reportFrom l chars = some raw) :
    exec (.reportComplete l chars) s =
      .next ((s.setLine l { s.line l with assembler := .seek }).dealReport l (judge l raw)).endEvent := by
  rw [← reportEnded_enabled s l _ hmode]
  exact reportComplete_of_ended s l chars raw hraw

end Ends

/-- Settles O23: the report is dealt with by its class, and a fault or an offer acts on the line with its assembler in
SEEK. -/
theorem enabledLineDealsByClass : Obligations.EnabledLineDealsByClass := by
  intro s l chars raw hmode hraw u accept fault offer
  have hexec (c : ReportClass) (hc : judge l raw = c) :
      exec (.reportComplete l chars) s = .next (u.dealReport l c).endEvent :=
    hc ▸ exec_reportComplete_enabled s l chars raw hmode hraw
  have hfault (ref : CounterRef) : (u.count ref).faulted l = fault (u.count ref) := by
    simp only [u, fault, count_setLine, faulted_setLine, raise_setLine, setLine_setLine]
  have hoffer (v : State) (rep : Report) (hbuffer : (v.line l).buffer = (s.line l).buffer) :
      v.offerReport l rep = offer v rep := by
    by_cases hempty : (s.line l).buffer = none
    · exact (offerReport_of_empty v l rep (hbuffer.trans hempty)).trans (if_pos hempty).symm
    · exact (offerReport_of_full v l rep (hbuffer ▸ hempty)).trans (if_neg hempty).symm
  have hcounted (ref : CounterRef) : ((u.count ref).line l).buffer = (s.line l).buffer := by simp [u]
  refine ⟨fun hc => (hexec _ hc).trans ?_, fun hc => (hexec _ hc).trans ?_, fun rep hc haccept => (hexec _ hc).trans ?_,
    fun rep hc haccept hempty => (hexec _ hc).trans ?_, fun rep hc haccept hfull => (hexec _ hc).trans ?_,
    fun rep hc => (hexec _ hc).trans ?_, fun rep => (suspect_of_judge l raw rep).1,
    fun rep => (suspect_of_judge l raw rep).2⟩
  · rw [State.dealReport, hfault]
  · rw [State.dealReport, hfault]
  · rw [dealReport_parity_refused u l rep haccept, hfault]
  · rw [dealReport_parity_accepted u l rep haccept, offerSuspect_of_empty _ l rep ((hcounted _).trans hempty),
      hoffer _ rep (hcounted _)]
  · rw [dealReport_parity_accepted u l rep haccept, offerSuspect_of_full _ l rep (hcounted _ ▸ hfull),
      hoffer _ rep (hcounted _)]
  · rw [State.dealReport, hoffer _ rep (by simp [u])]
    simp only [u, line_setLine_same, setLine_setLine]

/-! ### A DRAINING line (R53, log 11) -/

section Draining

variable (s : State) (l : Fin 8)


/-- A report that ends on a DRAINING line, by either of its rows, is drained by its class. -/
theorem exec_draining_ended (chars : List BeaconChar) (raw : RawReport) (got : List Byte) (pm fm : Bool)
    (hmode : (s.line l).mode = .draining) (hcollect : (s.line l).assembler = .collect got pm fm)
    (hraw : s.reportFrom l chars = some raw) :
    ∀ row ∈ [Instr.reportComplete l chars, .lineDrainComplete l (.ninth chars)],
      exec row s = .next (s.drainReport l (judge l raw)).endEvent := by
  rw [List.forall_mem_cons, List.forall_mem_singleton]
  constructor
  case left =>
    rw [← drainReport_setLine s l { s.line l with assembler := .seek }, ← reportEnded_draining s l _ hmode]
    exact reportComplete_of_ended s l chars raw hraw
  case right =>
    change execLineDrainComplete l (.ninth chars) s = _
    simp only [execLineDrainComplete, hmode, hcollect, hraw, taken]

/-- A report cut off on a DRAINING line is drained as a framing fault. -/
theorem exec_draining_cutOff (got : List Byte) (pm fm : Bool) (hmode : (s.line l).mode = .draining)
    (hcollect : (s.line l).assembler = .collect got pm fm) :
    exec (.lineDrainComplete l .cutOff) s = .next (s.drainReport l .framing).endEvent := by
  change execLineDrainComplete l .cutOff s = _
  simp only [execLineDrainComplete, hmode, hcollect, taken]

end Draining

end Sys2Proof.BeaconLines
end

section
/-! LINE CONTROL: DISABLE and ENABLE at a line, each with its REPLY (R52, R54, R184). -/

namespace Sys2Proof.BeaconLines

open Sys2Proof.Machine Sys2Proof.Safety Sys2Proof.Laws Sys2Proof.LineFormats Sys2Proof.CorridorPorts

/-! ### The actions at a line -/

section Actions

variable (s : State) (l : Fin 8)

theorem disableLine_collecting (hmode : (s.line l).mode = .enabled)
    (hcollect : ∃ chars p f, (s.line l).assembler = .collect chars p f) :
    s.disableLine l = (s.setLine l { s.line l with mode := .draining }, .done) := by
  obtain ⟨chars, p, f, hcollect⟩ := hcollect
  simp only [State.disableLine, hmode, hcollect]

theorem disableLine_free (h : ((s.line l).mode = .enabled ∧ ¬ ∃ chars p f, (s.line l).assembler = .collect chars p f) ∨
    (s.line l).mode = .quarantined) : s.disableLine l = (s.enterDisabled l, .done) := by
  rcases h with ⟨hmode, hfree⟩ | hmode
  · cases ha : (s.line l).assembler with
    | collect chars p f => exact absurd ⟨chars, p, f, ha⟩ hfree
    | settle | seek => simp only [State.disableLine, hmode, ha]
  · simp only [State.disableLine, hmode]

theorem disableLine_already (h : (s.line l).mode = .draining ∨ (s.line l).mode = .disabled) :
    s.disableLine l = (s, .done) := by
  rcases h with hmode | hmode <;> simp only [State.disableLine, hmode]

theorem enableLine_fresh (h : (s.line l).mode = .disabled ∨ (s.line l).mode = .quarantined) :
    s.enableLine l = (s.setLine l { mode := .enabled, assembler := .settle, buffer := none, streak := 0 }, .done) := by
  rcases h with hmode | hmode <;> simp only [State.enableLine, hmode]

theorem enableLine_draining (hmode : (s.line l).mode = .draining) :
    s.enableLine l = (s.setLine l { s.line l with mode := .enabled }, .done) := by
  simp only [State.enableLine, hmode]

theorem enableLine_already (hmode : (s.line l).mode = .enabled) : s.enableLine l = (s, .badState) := by
  simp only [State.enableLine, hmode]

end Actions

/-! ### The request -/

/-- A request at the head that ends in state `t` with answer `a` is answered so. -/
theorem request_answered {s t : State} {x : InboundFrame} {rest : List InboundFrame} {row : HandlerRow}
    {carryOut : List Byte → State → State × Answer} {a : Answer} (hhead : s.inbound = x :: rest)
    (hrow : rowOf x.frame = row) (hcarry : carryOut x.frame.body (afterTake s rest) = (t, a)) :
    request row carryOut s = .next (answered t x a) := by
  unfold afterTake at hcarry
  rw [request_of_head row carryOut s x rest hhead hrow, hcarry]
  rfl

/-- The row of a LINE CONTROL, by its action (log 9). -/
theorem rowOf_lineControl {s : State} {x : InboundFrame} {rest : List InboundFrame} (h : RequestAtHead s x rest 0x0A) :
    rowOf x.frame = if byteAt x.frame.body 2 = 1 then .lineEnable else .lineDisable := by
  obtain ⟨_, hkind, hcode⟩ := h
  rw [rowOf_request x.frame hkind, requestRow, hcode]
  rfl

theorem lineOfCode_of_val {n : Nat} {l : Fin 8} (h : n = l.val) : lineOfCode n = some l := by
  subst h
  exact dif_pos l.isLt

/-- A LINE CONTROL at the head whose action is the row's acts at its line and is answered with the action's status. -/
theorem lineControl_answered {s : State} {x : InboundFrame} {rest : List InboundFrame} {l : Fin 8}
    (h : RequestAtHead s x rest 0x0A) (hlen : 3 ≤ x.frame.body.length) (hline : byteAt x.frame.body 1 = l.val)
    (row : HandlerRow) (action : Nat) (act : Fin 8 → State → State × Status) (haction : byteAt x.frame.body 2 = action)
    (hrow : (if action = 1 then HandlerRow.lineEnable else .lineDisable) = row) :
    request row (lineControl action act) s =
      .next (answered (act l (afterTake s rest)).1 x (.plain (act l (afterTake s rest)).2)) := by
  have hcarry : lineControl action act x.frame.body (afterTake s rest) =
      ((act l (afterTake s rest)).1, .plain (act l (afterTake s rest)).2) := by
    rw [lineControl, if_neg (by simp [haction, hlen]), lineOfCode_of_val hline]
  exact request_answered h.1 (by rw [rowOf_lineControl h, haction, hrow]) hcarry

/-- Settles O24: either row of a DRAINING line drains the report by its class; each action at its line, then its REPLY. -/
theorem lineControlAndDrain : Obligations.LineControlAndDrain := by
  refine ⟨fun s l got pm fm hmode hcollect => ?_, fun s x rest l hhead hlen hline => ?_⟩
  case refine_1 =>
    intro off framing accept
    refine ⟨exec_draining_cutOff s l got pm fm hmode hcollect, fun chars raw hraw row hmem => ?_⟩
    have hexec (c : ReportClass) (hc : judge l raw = c) : exec row s = .next (s.drainReport l c).endEvent :=
      hc ▸ exec_draining_ended s l chars raw got pm fm hmode hcollect hraw row hmem
    exact ⟨hexec .framing, hexec .checksum, fun rep => hexec (.parity rep), fun rep => hexec (.clean rep)⟩
  case refine_2 =>
    intro u y collecting
    have hdisable := fun hact => lineControl_answered hhead hlen hline .lineDisable 0 (fun l t => t.disableLine l) hact rfl
    have henable := fun hact => lineControl_answered hhead hlen hline .lineEnable 1 (fun l t => t.enableLine l) hact rfl
    refine ⟨fun hact hm hc => (hdisable hact).trans ?_, fun hact hm => (hdisable hact).trans ?_,
      fun hact hm => (hdisable hact).trans ?_, fun hact hm => (henable hact).trans ?_,
      fun hact hm => (henable hact).trans ?_, fun hact hm => (henable hact).trans ?_⟩
    · rw [disableLine_collecting u l hm hc]
      rfl
    · rw [disableLine_free u l hm]
      rfl
    · rw [disableLine_already u l hm]
    · rw [enableLine_fresh u l hm]
    · rw [enableLine_draining u l hm]
      rfl
    · rw [enableLine_already u l hm]

end Sys2Proof.BeaconLines
end

section
/-! REPORT_TAKE: the line a take takes from, and the mapping of the report (R55 to R59). -/

namespace Sys2Proof.BeaconLines

open Sys2Proof.Machine Sys2Proof.Safety Sys2Proof.Laws

/-! ### The line taken from (R55) -/

/-- The place of a line in the search from the pointer: the line after the pointer has place 0. -/
theorem place_of_pointer_add (pointer i : Fin 8) : pointer + 1 + i - pointer - 1 = i := by
  rw [sub_sub, add_sub_cancel_left]

/-- The search finds the full line whose place after the pointer is the least. -/
theorem nextReport_of_first (s : State) (l : Fin 8) (rep : Report) (hfull : (s.line l).buffer = some rep)
    (hfirst : ∀ j : Fin 8, (s.line j).buffer.isSome = true →
      (l - s.reportPointer - 1).val ≤ (j - s.reportPointer - 1).val) : s.nextReport = some (l, rep) := by
  rw [State.nextReport, takeOrder, List.findSome?_map, lineNumbers, ← Fin.findSome?_eq_findSome?_finRange,
    Fin.findSome?_eq_some_iff]
  refine ⟨l - s.reportPointer - 1, by simp [hfull], fun i hi => ?_⟩
  cases hbuffer : (s.line (s.reportPointer + 1 + i)).buffer with
  | none => simp [hbuffer]
  | some other =>
    have hle := hfirst _ (by rw [hbuffer]; rfl)
    rw [place_of_pointer_add] at hle
    exact absurd hi (Nat.not_lt.mpr hle)

/-- A take empties the line's buffer, moves the pointer and counts the report; in ACTIVE the report is handed on. -/
theorem exec_reportTake (s : State) (l : Fin 8) (rep : Report) (h : s.nextReport = some (l, rep)) :
    let u := { s.setLine l { s.line l with buffer := none } with reportPointer := l }.count (.beacon l .reportsGood)
    exec .reportTake s = if s.mode = .active then .next (u.handReport rep).endEvent else .next u.endEvent := by
  intro u
  have hmode : u.mode = s.mode := count_mode _ _
  change execReportTake s = _
  rw [execReportTake, h, ← hmode]
  rfl

/-! ### The mapping (R57, R58) -/

section Mapping

variable (s : State) (role : ApproachEntry → Option (Fin 8)) (l : Fin 8)

/-- The search by a role of lines finds the lowest in-use approach that names the line in that role. -/
theorem find?_role_of_first (ap : Fin 8) (huse : (s.approach ap).inUse = true) (hrole : role (s.approach ap) = some l)
    (hfirst : ∀ o : Fin 8, o < ap → (s.approach o).inUse = true → role (s.approach o) ≠ some l) :
    approachNumbers.find? (fun o => (s.approach o).inUse && role (s.approach o) = some l) = some ap := by
  rw [approachNumbers, ← Fin.find?_eq_find?_finRange, Fin.find?_eq_some_iff]
  refine ⟨by simp [huse, hrole], fun o ho => ?_⟩
  simpa using hfirst o ho

theorem find?_role_of_none (hnone : ∀ ap : Fin 8, (s.approach ap).inUse = true → role (s.approach ap) ≠ some l) :
    approachNumbers.find? (fun o => (s.approach o).inUse && role (s.approach o) = some l) = none := by
  rw [List.find?_eq_none]
  intro ap _
  simpa using hnone ap

end Mapping

section Handing

variable (s : State) (rep : Report)

theorem handReport_checkIn_mapped (ap : Fin 8) (hkind : rep.kind = .checkIn)
    (hmap : s.checkInApproach rep.line = some ap) : s.handReport rep = s.takeCheckIn rep ap := by
  simp only [State.handReport, hkind, hmap]

theorem handReport_checkIn_unmapped (hkind : rep.kind = .checkIn) (hmap : s.checkInApproach rep.line = none) :
    s.handReport rep = s.count (.beacon rep.line .unmapped) := by
  simp only [State.handReport, hkind, hmap]

theorem handReport_checkOut_mapped (ap : Fin 8) (hkind : rep.kind = .checkOut)
    (hmap : s.checkOutApproach rep.line = some ap) : s.handReport rep = s.takeCheckOut rep ap := by
  simp only [State.handReport, hkind, hmap]

theorem handReport_checkOut_unmapped (hkind : rep.kind = .checkOut) (hmap : s.checkOutApproach rep.line = none) :
    s.handReport rep = s.count (.beacon rep.line .unmapped) := by
  simp only [State.handReport, hkind, hmap]

theorem handReport_cancel (hkind : rep.kind = .cancel) : s.handReport rep = s.takeCancel rep := by
  simp only [State.handReport, hkind]

end Handing

/-- Settles O25: the search finds the first full line, and a report taken is mapped by the approaches, which a take leaves
as they stand. -/
theorem reportTakenInTurn : Obligations.ReportTakenInTurn := by
  intro s l rep hfull hfirst u
  have htake := exec_reportTake s l rep (nextReport_of_first s l rep hfull hfirst)
  have happroach (ap : Fin 8) : u.approach ap = s.approach ap := by simp [u, State.approach]
  have hin : u.checkInApproach rep.line = s.checkInApproach rep.line := by
    simp only [State.checkInApproach, happroach]
  have hout : u.checkOutApproach rep.line = s.checkOutApproach rep.line := by
    simp only [State.checkOutApproach, happroach]
  exact ⟨fun hmode => htake.trans (if_neg hmode), fun hmode => htake.trans (if_pos hmode),
    fun ap hkind huse hrole hfirst =>
      handReport_checkIn_mapped u rep ap hkind
        (hin.trans (find?_role_of_first s ApproachEntry.checkIn rep.line ap huse hrole hfirst)),
    fun ap hkind huse hrole hfirst =>
      handReport_checkOut_mapped u rep ap hkind
        (hout.trans (find?_role_of_first s ApproachEntry.checkOut rep.line ap huse hrole hfirst)),
    fun hkind hnone =>
      handReport_checkIn_unmapped u rep hkind (hin.trans (find?_role_of_none s ApproachEntry.checkIn rep.line hnone)),
    fun hkind hnone =>
      handReport_checkOut_unmapped u rep hkind (hout.trans (find?_role_of_none s ApproachEntry.checkOut rep.line hnone)),
    handReport_cancel u rep⟩

end Sys2Proof.BeaconLines
end

section
/-! What the laws of calls and members read of a state, and the operations that write none of it (R75, R85, R114). -/

namespace Sys2Proof.LoadedTables

open Sys2Proof.Machine Sys2Proof.Safety Sys2Proof.Laws

/-! ### The part of a state the laws of calls read -/

/-- What `CallsLawful` reads of a state, the records apart. -/
structure SlotView where
  mode : Mode
  conflicts : List (Fin 8 × Fin 8)
  slots : Vector CallSlot 4
  slotTimers : Vector (Option SlotTimer) 4
  nextCall : Nat

def slotView (s : State) : SlotView := ⟨s.mode, s.conflicts, s.slots, s.slotTimers, s.nextCall⟩

/-- Everything `CallsLawful` reads of a state. -/
def callView (s : State) : SlotView × Vector (Option Record) 24 := (slotView s, s.records)

section View

variable {s t : State} (h : slotView t = slotView s)

include h

theorem mode_of_view : t.mode = s.mode := congrArg SlotView.mode h

theorem conflicts_of_view : t.conflicts = s.conflicts := congrArg SlotView.conflicts h

theorem nextCall_of_view : t.nextCall = s.nextCall := congrArg SlotView.nextCall h

theorem slot_of_view (k : Fin 4) : t.slot k = s.slot k := congrArg (fun v => v.slots[k]) h

theorem slotTimer_of_view (k : Fin 4) : t.slotTimer k = s.slotTimer k := congrArg (fun v => v.slotTimers[k]) h

theorem conflict_of_view (x y : Fin 8) : t.conflict x y = s.conflict x y := by
  simp only [State.conflict, conflicts_of_view h]

theorem callsApart_of_view (hs : CallsApart s) : CallsApart t := by
  simpa only [CallsApart, mode_of_view h, nextCall_of_view h, slot_of_view h, conflict_of_view h] using hs

end View

theorem slotView_of_view {s t : State} (h : callView t = callView s) : slotView t = slotView s := congrArg Prod.fst h

theorem record_of_view {s t : State} (h : callView t = callView s) (r : Fin 24) : t.record r = s.record r :=
  congrArg (fun v => v.2[r]) h

theorem callsLawful_of_view {s t : State} (h : callView t = callView s) (hs : CallsLawful s) : CallsLawful t := by
  refine ⟨callsApart_of_view (slotView_of_view h) hs.1, ?_⟩
  simpa only [MembersAgree, record_of_view h, slot_of_view (slotView_of_view h),
    slotTimer_of_view (slotView_of_view h)] using hs.2

/-! ### Operations that write none of it -/

@[simp] theorem callView_raise (s : State) (c : Condition) : callView (s.raise c) = callView s := by
  simp [callView, slotView]

@[simp] theorem callView_count (s : State) (ref : CounterRef) : callView (s.count ref) = callView s := by
  simp [callView, slotView]

@[simp] theorem callView_markDue (s : State) : callView s.markDue = callView s := by
  simp [callView, slotView]

@[simp] theorem callView_setPort (s : State) (p : Port) (x : PortState) : callView (s.setPort p x) = callView s := by
  simp [callView, slotView]

@[simp] theorem callView_setLine (s : State) (l : Fin 8) (x : LineState) : callView (s.setLine l x) = callView s := rfl

@[simp] theorem callView_setLockout (s : State) (ap : Fin 8) (n : Option Nat) :
    callView (s.setLockout ap n) = callView s := rfl

@[simp] theorem callView_setController (s : State) (c : Controller) : callView (s.setController c) = callView s := rfl

@[simp] theorem callView_place (s : State) (kind : OutKind) (k : Fin 4) : callView (s.place kind k) = callView s := rfl

@[simp] theorem callView_evalFlow (s : State) (p : Port) : callView (s.evalFlow p) = callView s := by
  simp [callView, slotView]

@[simp] theorem callView_setQueue (s : State) (p : Port) (q : List QueuedFrame) :
    callView (s.setQueue p q) = callView s := by
  simp [State.setQueue]

@[simp] theorem callView_enqueue (s : State) (p : Port) (f : QueuedFrame) : callView (s.enqueue p f) = callView s := by
  simp [callView, slotView]

@[simp] theorem callView_endEvent (s : State) : callView s.endEvent = callView s := by
  simp [callView, slotView]

@[simp] theorem callView_reply (s : State) (x : InboundFrame) (a : Answer) : callView (s.reply x a) = callView s := by
  rw [reply_frame]
  rfl

@[simp] theorem callView_alertGone (s : State) : callView s.alertGone = callView s := rfl

@[simp] theorem callView_sendNotice (s : State) (ap : Fin 8) (vehicle route : Nat) (direction : Bool)
    (late : Option Int) : callView (s.sendNotice ap vehicle route direction late) = callView s := by
  rw [sendNotice_frame]
  rfl

@[simp] theorem callView_flowAfter (s : State) (old : Params) (p : Port) :
    callView (s.flowAfter old p) = callView s := by
  rw [flowAfter_frame]
  rfl

/-- A change made for each element writes none of it when no single change does. -/
theorem callView_forEach {α : Type} (f : α → State → State) (hf : ∀ x t, callView (f x t) = callView t) (xs : List α)
    (s : State) : callView (forEach xs f s) = callView s := by
  induction xs generalizing s with
  | nil => rfl
  | cons x xs ih => exact (ih (f x s)).trans (hf x s)

theorem callView_ite {c : Prop} [Decidable c] {s t u : State} (ht : callView t = callView s)
    (hu : callView u = callView s) : callView (if c then t else u) = callView s := by
  split
  · exact ht
  · exact hu

/-! ### Corridor ports -/

@[simp] theorem callView_relay (s : State) (p : Port) (f : LinkFrame) : callView (s.relay p f) = callView s :=
  callView_ite (by simp) (callView_ite (by simp) (callView_ite (by simp) (by simp)))

@[simp] theorem callView_consume (s : State) (p : Port) (f : LinkFrame) : callView (s.consume p f) = callView s :=
  callView_ite rfl (by simp)

@[simp] theorem callView_route (s : State) (p : Port) (f : LinkFrame) : callView (s.route p f) = callView s :=
  callView_ite (by simp) (callView_ite (by simp) (by simp))

@[simp] theorem callView_dealByKind (s : State) (p : Port) (f : LinkFrame) :
    callView (s.dealByKind p f) = callView s :=
  callView_ite rfl (callView_ite (by simp [State.takeHold])
    (callView_ite (callView_ite (by simp) rfl) (by simp)))

@[simp] theorem callView_takeFrame (s : State) (p : Port) (res : RxResult) : callView (s.takeFrame p res) = callView s := by
  cases res <;> simp [State.takeFrame, State.heardFrame]

@[simp] theorem callView_frameResult (s : State) (p : Port) (res : RxResult) :
    callView (s.frameResult p res) = callView s := by
  unfold State.frameResult
  dsimp only
  split
  · simp
  · exact callView_ite (by simp) (by simp)
  · simp

@[simp] theorem callView_setReceiver (s : State) (p : Port) (r : Receiver) :
    callView (s.setReceiver p r) = callView s := by
  simp [State.setReceiver]

theorem callView_startChosen {s t : State} {p : Port} {c : TxChoice} (h : s.startChosen p c = some t) :
    callView t = callView s := by
  cases c with
  | control c =>
    obtain rfl := Option.some.inj h
    cases c <;> simp [State.startControl]
  | queued f =>
    obtain rfl := Option.some.inj h
    simp [State.startQueued]
  | fill =>
    obtain rfl := Option.some.inj h
    simp [State.startFill]
  | nothing => exact nomatch h

@[simp] theorem callView_freeLine (s : State) (p : Port) : callView (s.freeLine p) = callView s := by
  simp [State.freeLine]

@[simp] theorem callView_dropSent (s : State) (p : Port) : callView (s.dropSent p) = callView s := by
  unfold State.dropSent
  split
  · rfl
  · exact callView_ite (by simp) (by simp)

@[simp] theorem callView_disablePort (s : State) (p : Port) : callView (s.disablePort p).1 = callView s := by
  unfold State.disablePort
  dsimp only
  split
  · simp
  · rfl

@[simp] theorem callView_enablePort (s : State) (p : Port) : callView (s.enablePort p).1 = callView s := by
  unfold State.enablePort
  dsimp only
  split
  · rfl
  · simp

@[simp] theorem callView_resetPort (s : State) (p : Port) : callView (s.resetPort p).1 = callView s := by
  unfold State.resetPort
  split
  · have hflush := callView_forEach (fun f t => t.flushFrame p f)
      (fun f t => callView_ite (by simp) (by simp)) (s.port p).queue s
    simp [hflush]
  · rfl

/-! ### Beacon lines -/

@[simp] theorem callView_faulted (s : State) (l : Fin 8) : callView (s.faulted l) = callView s :=
  callView_ite (by simp) (by simp)

@[simp] theorem callView_offerReport (s : State) (l : Fin 8) (rep : Report) :
    callView (s.offerReport l rep) = callView s :=
  callView_ite (by simp) (by simp)

@[simp] theorem callView_dealReport (s : State) (l : Fin 8) (c : ReportClass) :
    callView (s.dealReport l c) = callView s := by
  have hsuspect (t : State) (rep : Report) : callView (t.offerSuspect l rep) = callView t :=
    callView_ite (by simp) (by simp)
  cases c with
  | framing | checksum | clean => simp [State.dealReport]
  | parity rep => exact callView_ite (by simp [hsuspect]) (by simp)

@[simp] theorem callView_drainReport (s : State) (l : Fin 8) (c : ReportClass) :
    callView (s.drainReport l c) = callView s := by
  cases c with
  | framing | checksum | clean => simp [State.drainReport, State.drainCount, State.enterDisabled]
  | parity rep => exact callView_ite (by simp) (by simp)

@[simp] theorem callView_reportEnded (s : State) (l : Fin 8) (c : ReportClass) :
    callView (s.reportEnded l c) = callView s := by
  unfold State.reportEnded
  dsimp only
  split <;> simp

@[simp] theorem callView_disableLine (s : State) (l : Fin 8) : callView (s.disableLine l).1 = callView s := by
  unfold State.disableLine
  dsimp only
  split <;> simp [State.enterDisabled]

@[simp] theorem callView_enableLine (s : State) (l : Fin 8) : callView (s.enableLine l).1 = callView s := by
  unfold State.enableLine
  dsimp only
  split <;> simp

/-! ### The phase port -/

@[simp] theorem callView_messageDone (s : State) : callView s.messageDone = callView s := rfl

@[simp] theorem callView_validMessage (s : State) : callView s.validMessage = callView s :=
  callView_ite (by simp) (by simp)

@[simp] theorem callView_stray (s : State) : callView s.stray = callView s := callView_count s _

@[simp] theorem callView_countOnSlot (s : State) (k : Fin 4) (c : ApproachCounter) :
    callView (s.countOnSlot k c) = callView s := by
  unfold State.countOnSlot
  split <;> simp

@[simp] theorem callView_responseMissed (s : State) : callView s.responseMissed = callView s :=
  (callView_ite (by simp) (by simp)).trans (callView_count s (.controller .timeouts))

@[simp] theorem callView_startLockout (s : State) (ap : Fin 8) : callView (s.startLockout ap) = callView s := rfl

end Sys2Proof.LoadedTables
end

section
/-! One call slot changed at a time, with the records it gains and loses: what a change must meet to keep calls apart and
slots and members in agreement (R75, R85, R114, R122, R123). -/

namespace Sys2Proof.LoadedTables

open Sys2Proof.Machine Sys2Proof.Safety Sys2Proof.Laws

/-! ### Records and slots -/

/-- A record slot that holds no record, or a WAITING one that names no call slot. -/
def Unlinked (o : Option Record) : Prop := ∀ x ∈ o, x.callSlot = none ∧ x.state = .waiting

theorem unlinked_none : Unlinked none := by simp [Unlinked]

theorem unlinked_some {x : Record} (hslot : x.callSlot = none) (hstate : x.state = .waiting) : Unlinked (some x) := by
  rintro y ⟨⟩
  exact ⟨hslot, hstate⟩

/-- A record that stands as a member of a slot must: on its approach, in its state and naming it (R85, R114). -/
def MemberOf (k : Fin 4) (y : CallSlot) (x : Record) : Prop :=
  x.callSlot = some k ∧ y.approach = some x.approach ∧ x.state = y.state.memberState

theorem isOpen_iff (st : SlotState) : st.isOpen = true ↔ st ≠ .idle ∧ st ≠ .closing := by
  cases st <;> simp [SlotState.isOpen]

theorem memberState_of_open {st : SlotState} (h : st.isOpen = true) : st.memberState ≠ .waiting := by
  cases st <;> simp_all [SlotState.isOpen, SlotState.memberState]

/-- An open slot has its kind and duration, members and no close cause, and was not serving. -/
theorem slotFieldsFit_of_open {y : CallSlot} (h : y.state.isOpen = true) :
    slotFieldsFit y ↔ y.kind.isSome = true ∧ y.duration.isSome = true ∧ y.cause = none ∧ y.members ≠ [] ∧
      y.wasServing = false := by
  unfold slotFieldsFit
  cases hst : y.state <;> simp_all [SlotState.isOpen]

/-- A slot that has members is open. -/
theorem open_of_members {y : CallSlot} (hfit : slotFieldsFit y) (h : y.members ≠ []) : y.state.isOpen = true := by
  unfold slotFieldsFit at hfit
  cases hst : y.state with
  | idle =>
    rw [hst] at hfit
    exact absurd (congrArg CallSlot.members hfit) h
  | closing =>
    rw [hst] at hfit
    exact absurd hfit.2.2.2 h
  | called | granted | serving => rfl

theorem conflict_comm (s : State) (x y : Fin 8) : s.conflict x y = s.conflict y x := Bool.or_comm _ _

/-! ### What the laws say of one slot and one record -/

section Lawful

variable {s : State} (hs : MembersAgree s)

include hs

theorem record_of_member {k : Fin 4} {r : Fin 24} (hr : r ∈ (s.slot k).members) :
    ∃ x, s.record r = some x ∧ MemberOf k (s.slot k) x := hs.2.1 k r hr

theorem member_of_record {k : Fin 4} {r : Fin 24} {x : Record} (hx : s.record r = some x) (hk : x.callSlot = some k) :
    r ∈ (s.slot k).members := (hs.2.2 r x hx).2 k hk

theorem callSlot_eq_none_iff {r : Fin 24} {x : Record} (hx : s.record r = some x) :
    x.callSlot = none ↔ x.state = .waiting := (hs.2.2 r x hx).1

theorem slotFieldsFit_of_lawful (k : Fin 4) : slotFieldsFit (s.slot k) := (hs.1 k).1

theorem open_of_member {k : Fin 4} {r : Fin 24} (hr : r ∈ (s.slot k).members) : (s.slot k).state.isOpen = true :=
  open_of_members (slotFieldsFit_of_lawful hs k) (List.ne_nil_of_mem hr)

/-- A record slot is a member of no call slot when its record names none. -/
theorem not_member_of_unlinked {r : Fin 24} (h : Unlinked (s.record r)) (k : Fin 4) : r ∉ (s.slot k).members := by
  intro hr
  obtain ⟨x, hx, hslot, _⟩ := record_of_member hs hr
  obtain ⟨hnone, _⟩ := h x hx
  exact nomatch hslot.symm.trans hnone

theorem unlinked_of_waiting {r : Fin 24} {x : Record} (hx : s.record r = some x) (h : x.state = .waiting) :
    Unlinked (s.record r) := by
  rw [hx]
  exact unlinked_some ((callSlot_eq_none_iff hs hx).mpr h) h

end Lawful

/-! ### The rule -/

/-- In a state, call slot `k` may hold the call and approach of `y`: in ACTIVE, with a number of its own from 1 to 15 and
an approach of its own that no other slot's conflicts with. -/
def MayHold (s : State) (k : Fin 4) (y : CallSlot) : Prop :=
  s.mode = .active ∧ ∃ n ap, y.call = some n ∧ y.approach = some ap ∧ 1 ≤ n ∧ n ≤ 15 ∧
    ∀ j : Fin 4, j ≠ k → (s.slot j).state ≠ .idle → (s.slot j).call ≠ some n ∧
      ∀ o ∈ (s.slot j).approach, o ≠ ap ∧ s.conflict ap o = false

/-- A slot that holds a call may hold it, whatever else of the slot changes. -/
theorem mayHold_of_apart {s : State} (hs : CallsApart s) {k : Fin 4} {y : CallSlot} (hk : (s.slot k).state ≠ .idle)
    (hcall : y.call = (s.slot k).call) (hap : y.approach = (s.slot k).approach) : MayHold s k y := by
  obtain ⟨hquiet, hapart, hrange, hsome, _⟩ := hs
  obtain ⟨hn, ha⟩ := hsome k hk
  obtain ⟨n, hn⟩ := Option.isSome_iff_exists.mp hn
  obtain ⟨ap, ha⟩ := Option.isSome_iff_exists.mp ha
  obtain ⟨hlow, hhigh⟩ := hrange k hk n hn
  refine ⟨by_contra fun hm => hk (hquiet hm k), n, ap, hcall.trans hn, hap.trans ha, hlow, hhigh, fun j hj hidle => ?_⟩
  obtain ⟨hne, hpair⟩ := hapart k j (Ne.symm hj) hk hidle
  refine ⟨fun h => hne (hn.trans h.symm), fun o ho => ?_⟩
  obtain ⟨hdiff, hfree⟩ := hpair ap ha o ho
  exact ⟨Ne.symm hdiff, hfree⟩

/-- Call slot `k` changes from `s` to `t`, and with it the records that join it, leave it or were free; no other slot's
members do. -/
structure SlotChanged (s t : State) (k : Fin 4) : Prop where
  mode : t.mode = s.mode
  conflicts : t.conflicts = s.conflicts
  next : 1 ≤ t.nextCall ∧ t.nextCall ≤ 15
  slots : ∀ j, j ≠ k → t.slot j = s.slot j
  timers : ∀ j, j ≠ k → t.slotTimer j = s.slotTimer j
  holds : (t.slot k).state ≠ .idle → MayHold s k (t.slot k)
  fields : slotFieldsFit (t.slot k)
  timer : (t.slotTimer k).map (fun y => y.kind) = timerOfState (t.slot k).state
  nodup : (t.slot k).members.Nodup
  members : ∀ r ∈ (t.slot k).members, ∃ x, t.record r = some x ∧ MemberOf k (t.slot k) x
  others : ∀ r, r ∉ (t.slot k).members → Unlinked (t.record r) ∨ t.record r = s.record r ∧ r ∉ (s.slot k).members
  reach : ∀ r, t.record r = s.record r ∨ ∀ x ∈ s.record r, ∀ j ∈ x.callSlot, j = k

section Changed

variable {s t : State} {k : Fin 4} (h : SlotChanged s t k)

include h

theorem callsApart_of_slotChanged (hs : CallsApart s) : CallsApart t := by
  obtain ⟨hquiet, hapart, hrange, hsome, _⟩ := hs
  have hconf (x y : Fin 8) : t.conflict x y = s.conflict x y := by simp only [State.conflict, h.conflicts]
  have hboth (j : Fin 4) (hjk : j ≠ k) (hk : (t.slot k).state ≠ .idle) (hj : (s.slot j).state ≠ .idle) :
      (t.slot k).call ≠ (s.slot j).call ∧
        ∀ x ∈ (t.slot k).approach, ∀ y ∈ (s.slot j).approach, x ≠ y ∧ s.conflict x y = false := by
    obtain ⟨_, n, ap, hn, ha, _, _, hothers⟩ := h.holds hk
    obtain ⟨hne, hpair⟩ := hothers j hjk hj
    refine ⟨fun he => hne (he.symm.trans hn), fun x hx y hy => ?_⟩
    obtain rfl := Option.some.inj (ha.symm.trans hx)
    exact ⟨Ne.symm (hpair y hy).1, (hpair y hy).2⟩
  refine ⟨fun hm j => ?_, fun i j hij hi hj => ?_, fun j hj n hn => ?_, fun j hj => ?_, h.next⟩
  · by_cases hjk : j = k
    · subst hjk
      exact by_contra fun hj => hm (h.mode.trans (h.holds hj).1)
    · rw [h.slots j hjk]
      exact hquiet (h.mode ▸ hm) j
  · simp only [hconf]
    by_cases hik : i = k
    · subst hik
      rw [h.slots j (Ne.symm hij)] at hj ⊢
      exact hboth j (Ne.symm hij) hi hj
    · rw [h.slots i hik] at hi ⊢
      by_cases hjk : j = k
      · subst hjk
        obtain ⟨hne, hpair⟩ := hboth i hij hj hi
        refine ⟨Ne.symm hne, fun x hx y hy => ?_⟩
        obtain ⟨hdiff, hfree⟩ := hpair y hy x hx
        exact ⟨Ne.symm hdiff, (conflict_comm s x y).trans hfree⟩
      · rw [h.slots j hjk] at hj ⊢
        exact hapart i j hij hi hj
  · by_cases hjk : j = k
    · subst hjk
      obtain ⟨_, m, _, hm, _, hlow, hhigh, _⟩ := h.holds hj
      obtain rfl := Option.some.inj (hm.symm.trans hn)
      exact ⟨hlow, hhigh⟩
    · rw [h.slots j hjk] at hj hn
      exact hrange j hj n hn
  · by_cases hjk : j = k
    · subst hjk
      obtain ⟨_, m, ap, hm, ha, _⟩ := h.holds hj
      exact ⟨by rw [hm]; rfl, by rw [ha]; rfl⟩
    · rw [h.slots j hjk] at hj ⊢
      exact hsome j hj

theorem membersAgree_of_slotChanged (hs : MembersAgree s) : MembersAgree t := by
  refine ⟨fun j => ?_, fun j r hr => ?_, fun r x hx => ?_⟩
  · by_cases hjk : j = k
    · subst hjk
      exact ⟨h.fields, h.timer, h.nodup⟩
    · rw [h.slots j hjk, h.timers j hjk]
      exact hs.1 j
  · by_cases hjk : j = k
    · subst hjk
      exact h.members r hr
    · rw [h.slots j hjk] at hr ⊢
      obtain ⟨x, hx, hslot, hrest⟩ := record_of_member hs hr
      have hsame : t.record r = s.record r := (h.reach r).resolve_right fun hk => hjk (hk x hx j hslot)
      exact ⟨x, hsame.trans hx, hslot, hrest⟩
  · by_cases hr : r ∈ (t.slot k).members
    · obtain ⟨y, hy, hslot, _, hstate⟩ := h.members r hr
      obtain rfl := Option.some.inj (hy.symm.trans hx)
      have hopen := open_of_members h.fields (List.ne_nil_of_mem hr)
      refine ⟨⟨fun hnone => (nomatch hslot.symm.trans hnone), fun hw => ?_⟩, fun j hj => ?_⟩
      · exact absurd (hstate.symm.trans hw) (memberState_of_open hopen)
      · obtain rfl := Option.some.inj (hslot.symm.trans hj)
        exact hr
    · rcases h.others r hr with hfree | ⟨hsame, hout⟩
      · obtain ⟨hslot, hstate⟩ := hfree x hx
        exact ⟨⟨fun _ => hstate, fun _ => hslot⟩, fun j hj => nomatch hslot.symm.trans hj⟩
      · rw [hsame] at hx
        refine ⟨callSlot_eq_none_iff hs hx, fun j hj => ?_⟩
        have hmem := member_of_record hs hx hj
        have hjk : j ≠ k := by
          rintro rfl
          exact hout hmem
        rwa [h.slots j hjk]

/-- A change of one slot that meets the rule keeps calls apart and slots and members in agreement. -/
theorem callsLawful_of_slotChanged (hs : CallsLawful s) : CallsLawful t :=
  ⟨callsApart_of_slotChanged h hs.1, membersAgree_of_slotChanged h hs.2⟩

end Changed

/-! ### A record written -/

/-- Records no call slot lists give way to records that name none. -/
theorem callsLawful_of_freed {s t : State} (hview : slotView t = slotView s) (hs : CallsLawful s)
    (hrec : ∀ r, t.record r = s.record r ∨ Unlinked (s.record r) ∧ Unlinked (t.record r)) : CallsLawful t := by
  obtain ⟨hapart, hslots, hmembers, hrecords⟩ := hs
  refine ⟨callsApart_of_view hview hapart, fun k => ?_, fun k q hq => ?_, fun q x hx => ?_⟩
  · simpa only [slot_of_view hview, slotTimer_of_view hview] using hslots k
  · rw [slot_of_view hview] at hq ⊢
    rcases hrec q with hsame | ⟨hfree, _⟩
    · rw [hsame]
      exact hmembers k q hq
    · exact absurd hq (not_member_of_unlinked ⟨hslots, hmembers, hrecords⟩ hfree k)
  · simp only [slot_of_view hview]
    rcases hrec q with hsame | ⟨_, hfree⟩
    · rw [hsame] at hx
      exact hrecords q x hx
    · obtain ⟨hslot, hstate⟩ := hfree x hx
      exact ⟨⟨fun _ => hstate, fun _ => hslot⟩, fun j hj => nomatch hslot.symm.trans hj⟩

theorem callsLawful_setRecord_unlinked {s : State} (hs : CallsLawful s) {r : Fin 24} {o : Option Record}
    (hold : Unlinked (s.record r)) (hnew : Unlinked o) : CallsLawful (s.setRecord r o) := by
  refine callsLawful_of_freed (s := s) rfl hs fun q => ?_
  by_cases hq : q = r
  · rw [hq, record_setRecord_same]
    exact .inr ⟨hold, hnew⟩
  · exact .inl (record_setRecord_ne s r o q hq)

/-- A record keeps its place when its call slot, state and approach stay. -/
theorem callsLawful_setRecord_linked {s : State} (hs : CallsLawful s) {r : Fin 24} {x y : Record}
    (hx : s.record r = some x) (hslot : y.callSlot = x.callSlot) (hstate : y.state = x.state)
    (hap : y.approach = x.approach) : CallsLawful (s.setRecord r (some y)) := by
  obtain ⟨hapart, hslots, hmembers, hrecords⟩ := hs
  refine ⟨callsApart_of_view (s := s) rfl hapart, fun k => ?_, fun k q hq => ?_, fun q z hz => ?_⟩
  · simpa only [slot_setRecord, slotTimer_setRecord] using hslots k
  · obtain ⟨z, hz, hzslot, hzap, hzstate⟩ := hmembers k q hq
    rw [record_setRecord]
    split
    case isTrue he =>
      subst he
      obtain rfl := Option.some.inj (hx.symm.trans hz)
      exact ⟨y, rfl, hslot.trans hzslot, by rw [hap]; exact hzap, hstate.trans hzstate⟩
    case isFalse => exact ⟨z, hz, hzslot, hzap, hzstate⟩
  · rw [record_setRecord] at hz
    split at hz
    case isTrue he =>
      subst he
      obtain rfl := Option.some.inj hz
      rw [hslot, hstate]
      exact hrecords q x hx
    case isFalse => exact hrecords q z hz

end Sys2Proof.LoadedTables
end

section
/-! Call slots that close, go to IDLE or move on, and records removed or returned, keep the laws of calls (R108, R109, R127
to R132, R137). -/

namespace Sys2Proof.LoadedTables

open Sys2Proof.Machine Sys2Proof.Safety Sys2Proof.Laws

/-! ### Records taken out and returned -/

@[simp] theorem slotView_setRecord (s : State) (r : Fin 24) (o : Option Record) :
    slotView (s.setRecord r o) = slotView s := rfl

@[simp] theorem slotView_count (s : State) (ref : CounterRef) : slotView (s.count ref) = slotView s :=
  slotView_of_view (callView_count s ref)

@[simp] theorem slotView_markDue (s : State) : slotView s.markDue = slotView s := slotView_of_view (callView_markDue s)

@[simp] theorem record_count (s : State) (ref : CounterRef) (r : Fin 24) : (s.count ref).record r = s.record r :=
  record_of_view (callView_count s ref) r

@[simp] theorem slotView_takeOut (s : State) (r : Fin 24) (outcome : ApproachCounter) :
    slotView (s.takeOut r outcome) = slotView s := by
  unfold State.takeOut
  split <;> simp

theorem record_takeOut (s : State) (r : Fin 24) (outcome : ApproachCounter) (q : Fin 24) :
    (s.takeOut r outcome).record q = if q = r then none else s.record q := by
  unfold State.takeOut
  split
  case h_1 hnone =>
    split
    case isTrue he => rw [he, hnone]
    case isFalse => rfl
  case h_2 => rw [record_count, record_setRecord]

@[simp] theorem slotView_returnMember (s : State) (holdOff : Option Nat) (exclude : Option ServiceKind) (r : Fin 24) :
    slotView (s.returnMember holdOff exclude r) = slotView s := by
  unfold State.returnMember
  split
  · rfl
  · dsimp only
    split <;> simp

theorem record_returnMember_ne (s : State) (holdOff : Option Nat) (exclude : Option ServiceKind) (r q : Fin 24)
    (h : q ≠ r) : (s.returnMember holdOff exclude r).record q = s.record q := by
  unfold State.returnMember
  split
  · rfl
  · dsimp only
    split
    · rw [record_count, record_setRecord_ne s r _ q h]
    · exact record_setRecord_ne s r _ q h

/-- A returned member is WAITING and names no slot, or its record has ended (R108). -/
theorem unlinked_returnMember (s : State) (holdOff : Option Nat) (exclude : Option ServiceKind) (r : Fin 24) :
    Unlinked ((s.returnMember holdOff exclude r).record r) := by
  unfold State.returnMember
  split
  case h_1 hnone =>
    rw [hnone]
    exact unlinked_none
  case h_2 =>
    dsimp only
    split
    · rw [record_count, record_setRecord_same]
      exact unlinked_none
    · rw [record_setRecord_same]
      exact unlinked_some rfl rfl

section ReturnMembers

variable (ms : List (Fin 24)) (holdOff : Option Nat) (exclude : Option ServiceKind) (s : State)

@[simp] theorem slotView_returnMembers : slotView (s.returnMembers ms holdOff exclude) = slotView s := by
  unfold State.returnMembers
  induction ms generalizing s with
  | nil => rfl
  | cons r rest ih => exact (ih (s.returnMember holdOff exclude r)).trans (slotView_returnMember ..)

theorem record_returnMembers_of_not_mem {q : Fin 24} (h : q ∉ ms) :
    (s.returnMembers ms holdOff exclude).record q = s.record q := by
  unfold State.returnMembers
  induction ms generalizing s with
  | nil => rfl
  | cons r rest ih =>
    rw [List.mem_cons, not_or] at h
    obtain ⟨hne, hrest⟩ := h
    exact (ih (s.returnMember holdOff exclude r) hrest).trans (record_returnMember_ne s _ _ r q hne)

theorem unlinked_returnMembers_of_unlinked {q : Fin 24} (h : Unlinked (s.record q)) :
    Unlinked ((s.returnMembers ms holdOff exclude).record q) := by
  unfold State.returnMembers
  induction ms generalizing s with
  | nil => exact h
  | cons r rest ih =>
    refine ih (s.returnMember holdOff exclude r) ?_
    by_cases hq : q = r
    · rw [hq]
      exact unlinked_returnMember s _ _ r
    · rwa [record_returnMember_ne s _ _ r q hq]

theorem unlinked_returnMembers {q : Fin 24} (h : q ∈ ms) :
    Unlinked ((s.returnMembers ms holdOff exclude).record q) := by
  induction ms generalizing s with
  | nil => exact nomatch h
  | cons r rest ih =>
    change Unlinked (((s.returnMember holdOff exclude r).returnMembers rest holdOff exclude).record q)
    rcases List.mem_cons.mp h with rfl | hrest
    · exact unlinked_returnMembers_of_unlinked _ _ _ _ (unlinked_returnMember s _ _ q)
    · exact ih _ hrest

end ReturnMembers

/-! ### A slot that closes or goes to IDLE -/

/-- A slot as closing leaves it (R127, R130, R135). -/
def closed (y : CallSlot) (cause : CloseCause) : CallSlot :=
  { y with state := .closing, cause := some cause, members := []
           wasServing := y.wasServing || decide (y.state = .serving) }

section CloseSlot

variable (s : State) (k : Fin 4) (cause : CloseCause)

theorem closeSlot_slots : (s.closeSlot k cause).slots = s.slots.set k (closed (s.slot k) cause) := by
  simp [State.closeSlot, State.placeAndWait, State.place, State.setSlot, closed]

theorem closeSlot_slotTimers :
    (s.closeSlot k cause).slotTimers = s.slotTimers.set k (some { kind := .response, left := s.params.responseTimeout }) := by
  simp [State.closeSlot, State.placeAndWait, State.place, State.setSlotTimer]

/-- A closing slot sends RELEASE from SERVING and CANCEL otherwise, for its call (R127, R130, R135). -/
theorem closeSlot_output :
    (s.closeSlot k cause).output = s.output ++
      [{ kind := if (s.slot k).state = .serving then .release else .cancel, call := (s.slot k).call.getD 0
         group := ((s.slot k).approach.map (fun ap => (s.approach ap).phaseGroup)).getD 0, code := none
         duration := 0 }] := by
  cases hst : (s.slot k).state <;>
    simp [State.closeSlot, State.placeAndWait, State.place, State.compose, SlotState.givingUp, hst]

@[simp] theorem record_closeSlot (r : Fin 24) : (s.closeSlot k cause).record r = s.record r := by
  rw [closeSlot_frame]
  rfl

end CloseSlot

@[simp] theorem record_idleSlot (s : State) (k : Fin 4) (r : Fin 24) : (s.idleSlot k).record r = s.record r := by
  rw [idleSlot_frame]
  rfl

/-- Call slot `k` of `s` stands in `t` as IDLE, or as closing leaves an open slot; no other slot changes. -/
structure SlotGone (s t : State) (k : Fin 4) : Prop where
  mode : t.mode = s.mode
  conflicts : t.conflicts = s.conflicts
  next : t.nextCall = s.nextCall
  slots : ∀ j, j ≠ k → t.slot j = s.slot j
  timers : ∀ j, j ≠ k → t.slotTimer j = s.slotTimer j
  gone : t.slot k = .idle ∧ t.slotTimer k = none ∨
    (s.slot k).state.isOpen = true ∧ (∃ cause, t.slot k = closed (s.slot k) cause) ∧
      (t.slotTimer k).map (fun y => y.kind) = some .response

theorem SlotGone.congr {s s' t t' : State} {k : Fin 4} (h : SlotGone s t k) (hs : slotView s' = slotView s)
    (ht : slotView t' = slotView t) : SlotGone s' t' k where
  mode := by rw [mode_of_view hs, mode_of_view ht, h.mode]
  conflicts := by rw [conflicts_of_view hs, conflicts_of_view ht, h.conflicts]
  next := by rw [nextCall_of_view hs, nextCall_of_view ht, h.next]
  slots j hj := by rw [slot_of_view hs, slot_of_view ht, h.slots j hj]
  timers j hj := by rw [slotTimer_of_view hs, slotTimer_of_view ht, h.timers j hj]
  gone := by
    rw [slot_of_view hs, slot_of_view ht, slotTimer_of_view ht]
    exact h.gone

theorem slotGone_closeSlot (s : State) (k : Fin 4) (cause : CloseCause) (hopen : (s.slot k).state.isOpen = true) :
    SlotGone s (s.closeSlot k cause) k where
  mode := by rw [closeSlot_frame]
  conflicts := by rw [closeSlot_frame]
  next := by rw [closeSlot_frame]
  slots j hj := by
    rw [← slot_setSlot_ne s k (closed (s.slot k) cause) j hj]
    exact congrArg (·[j]) (closeSlot_slots s k cause)
  timers j hj := by
    rw [← slotTimer_setSlotTimer_ne s k (some { kind := .response, left := s.params.responseTimeout }) j hj]
    exact congrArg (·[j]) (closeSlot_slotTimers s k cause)
  gone := by
    refine .inr ⟨hopen, ⟨cause, ?_⟩, ?_⟩
    · simp [State.slot, closeSlot_slots]
    · simp [State.slotTimer, closeSlot_slotTimers]

theorem slotView_idleSlot (s : State) (k : Fin 4) :
    slotView (s.idleSlot k) = slotView ((s.setSlot k .idle).setSlotTimer k none) := by
  unfold State.idleSlot
  dsimp only
  rw [slotView_markDue]
  split <;> rfl

/-- A slot that goes to IDLE is gone from any state that differs from the one before in that slot alone. -/
theorem slotGone_idleSlot (s : State) (k : Fin 4) (y : CallSlot) : SlotGone s ((s.setSlot k y).idleSlot k) k := by
  refine SlotGone.congr ?_ rfl (slotView_idleSlot _ k)
  exact ⟨rfl, rfl, rfl, fun j hj => by simp [slot_setSlot_ne _ _ _ j hj],
    fun j hj => by simp [slotTimer_setSlotTimer_ne _ _ _ j hj], .inl ⟨by simp, by simp⟩⟩

theorem setSlot_slot (s : State) (k : Fin 4) : s.setSlot k (s.slot k) = s := by
  simp [State.setSlot, State.slot]

/-- A slot goes, and each record its members leave behind is free again: the laws of calls are kept. -/
theorem callsLawful_of_slotGone {s t : State} {k : Fin 4} (h : SlotGone s t k) (hs : CallsLawful s)
    (hrec : ∀ r, t.record r = s.record r ∧ r ∉ (s.slot k).members ∨
      Unlinked (t.record r) ∧ ∀ x ∈ s.record r, ∀ j ∈ x.callSlot, j = k) : CallsLawful t := by
  have hempty : (t.slot k).members = [] := by
    rcases h.gone with ⟨he, _⟩ | ⟨_, ⟨cause, he⟩, _⟩ <;> rw [he] <;> rfl
  refine callsLawful_of_slotChanged (s := s) (k := k) ⟨h.mode, h.conflicts, ?_, h.slots, h.timers, fun hheld => ?_, ?_, ?_, ?_,
    fun r hr => ?_, fun r _ => ?_, fun r => ?_⟩ hs
  · rw [h.next]
    exact hs.1.2.2.2.2
  · rcases h.gone with ⟨he, _⟩ | ⟨hopen, ⟨cause, he⟩, _⟩
    · rw [he] at hheld
      exact absurd rfl hheld
    · rw [he]
      exact mayHold_of_apart hs.1 ((isOpen_iff _).mp hopen).1 rfl rfl
  · rcases h.gone with ⟨he, _⟩ | ⟨hopen, ⟨cause, he⟩, _⟩
    · rw [he]
      rfl
    · obtain ⟨hkind, hduration, _⟩ := (slotFieldsFit_of_open hopen).mp (slotFieldsFit_of_lawful hs.2 k)
      rw [he]
      exact ⟨hkind, hduration, rfl, rfl⟩
  · rcases h.gone with ⟨he, ht⟩ | ⟨_, ⟨cause, he⟩, ht⟩
    · rw [he, ht]
      rfl
    · rw [he, ht]
      rfl
  · rw [hempty]
    exact List.nodup_nil
  · rw [hempty] at hr
    exact nomatch hr
  · exact (hrec r).symm.imp And.left id
  · exact (hrec r).imp And.left And.right

/-- A record that names a call slot names the one it is a member of. -/
theorem callSlot_of_member {s : State} (hs : MembersAgree s) {k : Fin 4} {r : Fin 24} (hr : r ∈ (s.slot k).members) :
    ∀ x ∈ s.record r, ∀ j ∈ x.callSlot, j = k := by
  intro x hx j hj
  obtain ⟨z, hz, hslot, _⟩ := record_of_member hs hr
  obtain rfl := Option.some.inj (hz.symm.trans hx)
  exact Option.some.inj (hj.symm.trans hslot)

/-- A slot goes and its members are returned (R127, R148, R150, R154, R157, R158). -/
theorem callsLawful_returnMembers {s t : State} {k : Fin 4} (h : SlotGone s t k) (hs : CallsLawful s)
    (hsame : ∀ r, t.record r = s.record r) (holdOff : Option Nat) (exclude : Option ServiceKind) :
    CallsLawful (t.returnMembers (s.slot k).members holdOff exclude) := by
  refine callsLawful_of_slotGone (h.congr rfl (slotView_returnMembers ..)) hs fun r => ?_
  by_cases hr : r ∈ (s.slot k).members
  · exact .inr ⟨unlinked_returnMembers _ _ _ _ hr, callSlot_of_member hs.2 hr⟩
  · exact .inl ⟨(record_returnMembers_of_not_mem _ _ _ _ hr).trans (hsame r), hr⟩

theorem callsLawful_closeReturning {s : State} (hs : CallsLawful s) (k : Fin 4) (cause : CloseCause)
    (hopen : (s.slot k).state.isOpen = true) : CallsLawful (s.closeReturning k cause) :=
  callsLawful_returnMembers (slotGone_closeSlot s k cause hopen) hs (record_closeSlot s k cause) none none

/-- A slot goes to IDLE, whatever else of it was written before, and its members are returned. -/
theorem callsLawful_idleReturning {s : State} (hs : CallsLawful s) (k : Fin 4) (y : CallSlot)
    (hmembers : y.members = (s.slot k).members) (holdOff : Option Nat) (exclude : Option ServiceKind) :
    CallsLawful ((s.setSlot k y).idleReturning k holdOff exclude) := by
  unfold State.idleReturning
  rw [slot_setSlot_same, hmembers]
  exact callsLawful_returnMembers (slotGone_idleSlot s k y) hs (fun r => by simp) holdOff exclude

/-- A CLOSING slot goes to IDLE: it has no members to return (R151, R155). -/
theorem callsLawful_idleSlot_of_closing {s : State} (hs : CallsLawful s) (k : Fin 4)
    (hclosing : (s.slot k).state = .closing) : CallsLawful (s.idleSlot k) := by
  have hgone := slotGone_idleSlot s k (s.slot k)
  rw [setSlot_slot] at hgone
  have hnone : (s.slot k).members = [] := by
    by_contra hsome
    have hopen := open_of_members (slotFieldsFit_of_lawful hs.2 k) hsome
    rw [hclosing] at hopen
    exact nomatch hopen
  refine callsLawful_of_slotGone hgone hs fun r => .inl ⟨record_idleSlot s k r, ?_⟩
  rw [hnone]
  exact List.not_mem_nil

/-! ### A slot that moves on -/

/-- A member's record given a state (R85). -/
def memberMoved (st : RecordState) (r : Fin 24) (t : State) : State :=
  match t.record r with
  | none => t
  | some y => t.setRecord r (some { y with state := st })

theorem advanceSlot_eq (s : State) (k : Fin 4) (st : SlotState) :
    s.advanceSlot k st =
      (forEach (s.slot k).members (memberMoved st.memberState) (s.setSlot k { s.slot k with state := st })).markDue := rfl

/-- A slot's members read after their states are set. -/
theorem record_memberStates (st : RecordState) (ms : List (Fin 24)) (s : State) (q : Fin 24) :
    (forEach ms (memberMoved st) s).record q =
      if q ∈ ms then (s.record q).map (fun y => { y with state := st }) else s.record q := by
  induction ms generalizing s with
  | nil => rfl
  | cons r rest ih =>
    rw [forEach_cons, ih, memberMoved]
    by_cases hq : q = r
    · subst hq
      cases hx : s.record q with
      | none => simp [hx]
      | some y => simp
    · cases hx : s.record r with
      | none => simp [hq]
      | some y => simp [hq, record_setRecord_ne _ _ _ q hq]

theorem slotView_memberStates (st : RecordState) (ms : List (Fin 24)) (s : State) :
    slotView (forEach ms (memberMoved st) s) = slotView s := by
  induction ms generalizing s with
  | nil => rfl
  | cons r rest ih =>
    rw [forEach_cons, ih, memberMoved]
    cases s.record r <;> rfl

/-- An open slot whose timer has been set moves on to another open state, and its members with it (R85, R146, R147). -/
theorem callsLawful_advanceSlot {s : State} (hs : CallsLawful s) (k : Fin 4) (st : SlotState) (timer : SlotTimer)
    (hopen : (s.slot k).state.isOpen = true) (hst : st.isOpen = true) (htimer : some timer.kind = timerOfState st) :
    CallsLawful ((s.setSlotTimer k (some timer)).advanceSlot k st) := by
  obtain ⟨hkind, hduration, hcause, hmembers, hserving⟩ :=
    (slotFieldsFit_of_open hopen).mp (slotFieldsFit_of_lawful hs.2 k)
  rw [advanceSlot_eq, slot_setSlotTimer]
  refine callsLawful_of_view (callView_markDue _) ?_
  have hview := slotView_memberStates st.memberState (s.slot k).members
    ((s.setSlotTimer k (some timer)).setSlot k { s.slot k with state := st })
  have hrecord := record_memberStates st.memberState (s.slot k).members
    ((s.setSlotTimer k (some timer)).setSlot k { s.slot k with state := st })
  generalize forEach (s.slot k).members (memberMoved st.memberState) _ = t at hview hrecord ⊢
  have hslot : t.slot k = { s.slot k with state := st } := by rw [slot_of_view hview, slot_setSlot_same]
  refine callsLawful_of_slotChanged (s := s) (k := k) ⟨?_, ?_, ?_, fun j hj => ?_, fun j hj => ?_, fun _ => ?_, ?_, ?_, ?_,
    fun r hr => ?_, fun r hr => ?_, fun r => ?_⟩ hs
  · rw [mode_of_view hview]
    rfl
  · rw [conflicts_of_view hview]
    rfl
  · rw [nextCall_of_view hview]
    exact hs.1.2.2.2.2
  · rw [slot_of_view hview, slot_setSlot_ne _ _ _ j hj, slot_setSlotTimer]
  · rw [slotTimer_of_view hview, slotTimer_setSlot, slotTimer_setSlotTimer_ne _ _ _ j hj]
  · rw [hslot]
    exact mayHold_of_apart hs.1 ((isOpen_iff _).mp hopen).1 rfl rfl
  · rw [hslot]
    exact (slotFieldsFit_of_open hst).mpr ⟨hkind, hduration, hcause, hmembers, hserving⟩
  · rw [hslot, slotTimer_of_view hview, slotTimer_setSlot, slotTimer_setSlotTimer_same]
    exact htimer
  · rw [hslot]
    exact (hs.2.1 k).2.2
  · rw [hslot] at hr ⊢
    obtain ⟨x, hx, hxslot, hxap, _⟩ := record_of_member hs.2 hr
    refine ⟨{ x with state := st.memberState }, ?_, hxslot, hxap, rfl⟩
    rw [hrecord, if_pos hr, record_setSlot, record_setSlotTimer, hx]
    rfl
  · rw [hslot] at hr
    exact .inr ⟨by rw [hrecord, if_neg hr, record_setSlot, record_setSlotTimer], hr⟩
  · by_cases hr : r ∈ (s.slot k).members
    · exact .inr (callSlot_of_member hs.2 hr)
    · exact .inl (by rw [hrecord, if_neg hr, record_setSlot, record_setSlotTimer])

/-! ### A record removed (R109, R129, R130) -/

/-- A record that names no slot is taken out. -/
theorem callsLawful_takeOut {s : State} (hs : CallsLawful s) (r : Fin 24) (outcome : ApproachCounter)
    (hfree : Unlinked (s.record r)) : CallsLawful (s.takeOut r outcome) := by
  unfold State.takeOut
  split
  · exact hs
  · exact callsLawful_of_view (callView_count _ _) (callsLawful_setRecord_unlinked hs hfree unlinked_none)

/-- A member's record is taken out, and the member leaves its slot. -/
theorem callsLawful_leaveSlot {s : State} (hs : CallsLawful s) (k : Fin 4) (r : Fin 24) (outcome : ApproachCounter)
    (cause : CloseCause) (hr : r ∈ (s.slot k).members) :
    CallsLawful ((s.takeOut r outcome).leaveSlot k r cause) := by
  have hopen := open_of_member hs.2 hr
  obtain ⟨hkind, hduration, hcause, _, hserving⟩ := (slotFieldsFit_of_open hopen).mp (slotFieldsFit_of_lawful hs.2 k)
  have hslot := slot_of_view (slotView_takeOut s r outcome)
  have hreach (q : Fin 24) : (s.takeOut r outcome).record q = s.record q ∧ q ≠ r ∨
      Unlinked ((s.takeOut r outcome).record q) ∧ ∀ x ∈ s.record q, ∀ j ∈ x.callSlot, j = k := by
    rw [record_takeOut]
    by_cases hq : q = r
    · rw [if_pos hq, hq]
      exact .inr ⟨unlinked_none, callSlot_of_member hs.2 hr⟩
    · rw [if_neg hq]
      exact .inl ⟨rfl, hq⟩
  have hfilter (q : Fin 24) : q ∈ (s.slot k).members.filter (fun m => m ≠ r) ↔ q ∈ (s.slot k).members ∧ q ≠ r := by
    simp
  unfold State.leaveSlot
  dsimp only
  rw [hslot k]
  split
  case isTrue hlast =>
    refine callsLawful_of_slotGone (k := k) ((slotGone_closeSlot (s.takeOut r outcome) k cause ?_).congr
      (slotView_takeOut s r outcome).symm rfl) hs fun q => ?_
    · rwa [hslot k]
    · rw [record_closeSlot]
      refine (hreach q).imp_left fun ⟨hsame, hne⟩ => ⟨hsame, fun hq => ?_⟩
      have hnone := List.isEmpty_iff.mp hlast.1
      exact List.not_mem_nil (hnone ▸ (hfilter q).mpr ⟨hq, hne⟩)
  case isFalse hsome =>
    have hkeeps : (s.slot k).members.filter (fun m => m ≠ r) ≠ [] :=
      fun hnone => hsome ⟨List.isEmpty_iff.mpr hnone, hopen⟩
    refine callsLawful_of_slotChanged (s := s) (k := k) ⟨?_, ?_, ?_, fun j hj => ?_, fun j hj => ?_, fun _ => ?_, ?_, ?_, ?_,
      fun q hq => ?_, fun q hq => ?_, fun q => ?_⟩ hs
    · rw [setSlot_mode, mode_of_view (slotView_takeOut s r outcome)]
    · rw [setSlot_conflicts, conflicts_of_view (slotView_takeOut s r outcome)]
    · rw [setSlot_nextCall, nextCall_of_view (slotView_takeOut s r outcome)]
      exact hs.1.2.2.2.2
    · rw [slot_setSlot_ne _ _ _ j hj, hslot]
    · rw [slotTimer_setSlot, slotTimer_of_view (slotView_takeOut s r outcome)]
    · rw [slot_setSlot_same]
      exact mayHold_of_apart hs.1 ((isOpen_iff _).mp hopen).1 rfl rfl
    · rw [slot_setSlot_same]
      refine (slotFieldsFit_of_open ?_).mpr ⟨hkind, hduration, hcause, hkeeps, hserving⟩
      exact hopen
    · rw [slot_setSlot_same, slotTimer_setSlot, slotTimer_of_view (slotView_takeOut s r outcome)]
      exact (hs.2.1 k).2.1
    · rw [slot_setSlot_same]
      exact (hs.2.1 k).2.2.filter _
    · rw [slot_setSlot_same] at hq ⊢
      obtain ⟨hmem, hne⟩ := (hfilter q).mp hq
      rw [record_setSlot, record_takeOut, if_neg hne]
      exact record_of_member hs.2 hmem
    · rw [slot_setSlot_same] at hq
      rw [record_setSlot]
      rcases hreach q with ⟨hsame, hne⟩ | ⟨hfree, _⟩
      · exact .inr ⟨hsame, fun hmem => hq ((hfilter q).mpr ⟨hmem, hne⟩)⟩
      · exact .inl hfree
    · rw [record_setSlot]
      exact (hreach q).imp And.left And.right

theorem callsLawful_removeRecord {s : State} (hs : CallsLawful s) (r : Fin 24) (outcome : ApproachCounter)
    (cause : CloseCause) : CallsLawful (s.removeRecord r outcome cause) := by
  unfold State.removeRecord
  split
  · exact hs
  case h_2 x hx =>
    split
    case h_1 hnone =>
      refine callsLawful_takeOut hs r outcome ?_
      rw [hx]
      exact unlinked_some hnone ((callSlot_eq_none_iff hs.2 hx).mp hnone)
    case h_2 k hk => exact callsLawful_leaveSlot hs k r outcome cause (member_of_record hs.2 hx hk)

end Sys2Proof.LoadedTables
end

section
/-! An evaluation keeps the laws of calls: joining, opening and preemption (R117 to R127). -/

namespace Sys2Proof.LoadedTables

open Sys2Proof.Machine Sys2Proof.Safety Sys2Proof.Laws

/-- A change made for each element keeps what each single change keeps. -/
theorem forEach_keeps {α : Type} {P : State → Prop} (f : α → State → State) (hf : ∀ x t, P t → P (f x t)) (xs : List α)
    {s : State} (hs : P s) : P (forEach xs f s) := by
  induction xs generalizing s with
  | nil => exact hs
  | cons x xs ih => exact ih (hf x s hs)

/-! ### Joining (R121) -/

theorem waiting_of_eligible {s : State} {x : Record} {kind : ServiceKind} (h : s.eligible x kind = true) :
    x.state = .waiting := by
  simp only [State.eligible, Bool.and_eq_true, decide_eq_true_eq] at h
  obtain ⟨⟨⟨⟨⟨⟨hwaiting, _⟩, _⟩, _⟩, _⟩, _⟩, _⟩ := h
  exact hwaiting

theorem openSlotOf_some {s : State} {ap : Fin 8} {k : Fin 4} (h : s.openSlotOf ap = some k) :
    (s.slot k).state.isOpen = true ∧ (s.slot k).approach = some ap := by
  have hk := List.find?_some h
  rwa [Bool.and_eq_true, decide_eq_true_eq] at hk

theorem openSlotOf_none {s : State} {ap : Fin 8} (h : s.openSlotOf ap = none) (k : Fin 4)
    (hopen : (s.slot k).state.isOpen = true) : (s.slot k).approach ≠ some ap := by
  have hk := List.find?_eq_none.mp h k (List.mem_finRange k)
  simpa [hopen] using hk

/-- A WAITING record joins an open slot of its approach. -/
theorem callsLawful_join {s : State} (hs : CallsLawful s) (k : Fin 4) (r : Fin 24) (x : Record)
    (hx : s.record r = some x) (hwaiting : x.state = .waiting) (hopen : (s.slot k).state.isOpen = true)
    (hap : (s.slot k).approach = some x.approach) : CallsLawful (s.join k r x) := by
  obtain ⟨hkind, hduration, hcause, _, hserving⟩ := (slotFieldsFit_of_open hopen).mp (slotFieldsFit_of_lawful hs.2 k)
  have hfree := unlinked_of_waiting hs.2 hx hwaiting
  have hout := not_member_of_unlinked hs.2 hfree k
  have hslot : (s.join k r x).slot k = { s.slot k with members := (s.slot k).members ++ [r] } := by
    simp only [State.join, slot_setRecord, slot_setSlot_same]
  have hrecord (q : Fin 24) : (s.join k r x).record q =
      if q = r then some { x with callSlot := some k, state := (s.slot k).state.memberState } else s.record q := by
    simp only [State.join, record_setRecord, record_setSlot]
  refine callsLawful_of_slotChanged (s := s) (k := k) ⟨rfl, rfl, ?_, fun j hj => ?_, fun j _ => ?_, fun _ => ?_, ?_, ?_, ?_,
    fun q hq => ?_, fun q hq => ?_, fun q => ?_⟩ hs
  · exact hs.1.2.2.2.2
  · simp only [State.join, slot_setRecord, slot_setSlot_ne _ _ _ j hj]
  · simp only [State.join, slotTimer_setRecord, slotTimer_setSlot]
  · rw [hslot]
    exact mayHold_of_apart hs.1 ((isOpen_iff _).mp hopen).1 rfl rfl
  · rw [hslot]
    refine (slotFieldsFit_of_open ?_).mpr ⟨hkind, hduration, hcause, ?_, hserving⟩
    · exact hopen
    · exact List.append_ne_nil_of_right_ne_nil _ (List.cons_ne_nil r [])
  · rw [hslot]
    exact (hs.2.1 k).2.1
  · rw [hslot]
    exact List.nodup_append.mpr ⟨(hs.2.1 k).2.2, List.nodup_singleton r,
      fun q hq p hp he => hout (List.mem_singleton.mp hp ▸ he ▸ hq)⟩
  · rw [hslot] at hq ⊢
    rw [hrecord]
    split
    case isTrue => exact ⟨_, rfl, rfl, hap, rfl⟩
    case isFalse hne =>
      have hmem : q ∈ (s.slot k).members := (List.mem_append.mp hq).resolve_right (by simpa using hne)
      exact record_of_member hs.2 hmem
  · rw [hslot, List.mem_append, not_or, List.mem_singleton] at hq
    obtain ⟨hmem, hne⟩ := hq
    exact .inr ⟨by rw [hrecord, if_neg hne], hmem⟩
  · rw [hrecord]
    split
    case isTrue he =>
      rw [he]
      exact .inr fun z hz j hj => nomatch (hfree z hz).1.symm.trans hj
    case isFalse => exact .inl rfl

/-- What a try to join can do. -/
theorem tryJoin_cases (s : State) (r : Fin 24) :
    s.tryJoin r = s ∨ ∃ k x, s.tryJoin r = s.join k r x ∧ s.record r = some x ∧ x.state = .waiting ∧
      (s.slot k).state.isOpen = true ∧ (s.slot k).approach = some x.approach := by
  unfold State.tryJoin
  split
  · exact .inl rfl
  case h_2 x hx =>
    split
    · exact .inl rfl
    case h_2 k hk =>
      split
      · exact .inl rfl
      · split
        case isTrue heligible =>
          obtain ⟨hopen, hap⟩ := openSlotOf_some hk
          exact .inr ⟨k, x, rfl, hx, waiting_of_eligible heligible, hopen, hap⟩
        case isFalse => exact .inl rfl

/-- The laws of calls in a state that is ACTIVE, as an evaluation keeps them. -/
def ActiveCalls (s : State) : Prop := CallsLawful s ∧ s.mode = .active

theorem ActiveCalls.tryJoin {s : State} (hs : ActiveCalls s) (r : Fin 24) : ActiveCalls (s.tryJoin r) := by
  rcases tryJoin_cases s r with he | ⟨k, x, he, hx, hwaiting, hopen, hap⟩
  · rwa [he]
  · rw [he]
    exact ⟨callsLawful_join hs.1 k r x hx hwaiting hopen hap, hs.2⟩

/-! ### The number of a new call (R123) -/

theorem nextNumber_range {n : Nat} (h : 1 ≤ n ∧ n ≤ 15) : 1 ≤ nextNumber n ∧ nextNumber n ≤ 15 := by
  unfold nextNumber
  split <;> omega

theorem freeNumber_range (s : State) (tries n : Nat) (h : 1 ≤ n ∧ n ≤ 15) :
    1 ≤ s.freeNumber tries n ∧ s.freeNumber tries n ≤ 15 := by
  induction tries generalizing n with
  | zero => exact h
  | succ tries ih =>
    unfold State.freeNumber
    split
    · exact ih _ (nextNumber_range h)
    · exact h

/-- The search ends on a free number when one is met within the tries. -/
theorem freeNumber_free (s : State) (tries n j : Nat) (hj : j ≤ tries)
    (hfree : s.numberHeld (nextNumber^[j] n) = false) : s.numberHeld (s.freeNumber tries n) = false := by
  induction tries generalizing n j with
  | zero =>
    obtain rfl := Nat.le_zero.mp hj
    exact hfree
  | succ tries ih =>
    unfold State.freeNumber
    split
    case isTrue hheld =>
      cases j with
      | zero => exact nomatch (hheld.symm.trans hfree : true = false)
      | succ j => exact ih (nextNumber n) j (Nat.le_of_succ_le_succ hj) hfree
    case isFalse hnot => exact Bool.eq_false_iff.mpr hnot

/-- Five numbers in turn are five numbers. -/
theorem nextNumber_iterate_injective :
    ∀ n : Fin 16, 1 ≤ n.val → ∀ i j : Fin 5, nextNumber^[i] n.val = nextNumber^[j] n.val → i = j := by
  decide

/-- Four slots hold four numbers at most, so of five in turn one is free. -/
theorem exists_free_number (s : State) {n : Nat} (h : 1 ≤ n ∧ n ≤ 15) :
    ∃ j : Fin 5, s.numberHeld (nextNumber^[j] n) = false := by
  by_contra hall
  have hheld (j : Fin 5) : ∃ k : Fin 4, (s.slot k).call = some (nextNumber^[j] n) := by
    have hj := not_exists.mp hall j
    simp only [State.numberHeld, Bool.not_eq_false, List.any_eq_true, Bool.and_eq_true, decide_eq_true_eq] at hj
    obtain ⟨k, _, _, hk⟩ := hj
    exact ⟨k, hk⟩
  choose holder hholder using hheld
  obtain ⟨i, j, hne, hsame⟩ := Fintype.exists_ne_map_eq_of_card_lt holder (by decide)
  have hnumber := (hholder i).symm.trans ((congrArg (fun k => (s.slot k).call) hsame).trans (hholder j))
  exact hne (nextNumber_iterate_injective ⟨n, by omega⟩ h.1 i j (Option.some.inj hnumber))

/-- The number a call is opened with is held by no other. -/
theorem freeNumber_not_held (s : State) (h : 1 ≤ s.nextCall ∧ s.nextCall ≤ 15) :
    s.numberHeld (s.freeNumber 15 s.nextCall) = false := by
  obtain ⟨j, hj⟩ := exists_free_number s h
  exact freeNumber_free s 15 s.nextCall j (by omega) hj

/-! ### Opening (R122 to R124) -/

theorem eligible_of_chosenKind {s : State} {x : Record} {kind : ServiceKind} (h : s.chosenKind x = some kind) :
    s.eligible x kind = true := by
  unfold State.chosenKind at h
  split_ifs at h with _ _ hextend hearly hjump <;> obtain rfl := Option.some.inj h <;> assumption

/-- A slot may be opened for a record of whose approach no slot holds it, nor one that conflicts with it. -/
theorem openKind_some {s : State} {r : Fin 24} {x : Record} {kind : ServiceKind} (hx : s.record r = some x)
    (h : s.openKind r = some kind) :
    s.approachHeld x.approach = false ∧ s.conflictingSlots x.approach = [] ∧ x.state = .waiting := by
  unfold State.openKind at h
  rw [hx] at h
  dsimp only at h
  split at h
  · exact nomatch h
  case isFalse hno =>
    rw [not_or, Bool.not_eq_true, not_not] at hno
    exact ⟨hno.1, hno.2, waiting_of_eligible (eligible_of_chosenKind h)⟩

theorem lowestIdle_some {s : State} {k : Fin 4} (h : s.lowestIdle = some k) : (s.slot k).state = .idle := by
  simpa using List.find?_some h

/-- What an IDLE slot may be opened with: the next free number and an approach no other slot holds or conflicts with. -/
theorem mayHold_of_free {s : State} (hs : ActiveCalls s) (k : Fin 4) {y : CallSlot} {ap : Fin 8}
    (hcall : y.call = some (s.freeNumber 15 s.nextCall)) (hap : y.approach = some ap)
    (hheld : s.approachHeld ap = false) (hconf : s.conflictingSlots ap = []) : MayHold s k y := by
  have hnext := hs.1.1.2.2.2.2
  obtain ⟨hlow, hhigh⟩ := freeNumber_range s 15 s.nextCall hnext
  have hnumber := freeNumber_not_held s hnext
  refine ⟨hs.2, _, ap, hcall, hap, hlow, hhigh, fun j _ hidle => ⟨fun hj => ?_, fun o ho => ⟨?_, ?_⟩⟩⟩
  · rw [State.numberHeld, List.any_eq_false] at hnumber
    exact hnumber j (List.mem_finRange j) (by simp [hidle, hj])
  · rintro rfl
    rw [State.approachHeld, List.any_eq_false] at hheld
    exact hheld j (List.mem_finRange j) (by simpa [State.holds, hidle] using ho)
  · rw [State.conflictingSlots, List.filter_eq_nil_iff] at hconf
    by_contra hpair
    refine hconf j (List.mem_finRange j) ?_
    rw [State.slotConflicts, Option.mem_def.mp ho]
    simpa [hidle] using hpair

/-- The fields a slot is opened with (R123, R124). -/
def openedSlot (s : State) (r : Fin 24) (x : Record) (kind : ServiceKind) : CallSlot :=
  { state := .called, call := some (s.freeNumber 15 s.nextCall), approach := some x.approach, kind := some kind
    duration := some ((s.approach x.approach).durationOf kind), members := [r], cause := none, wasServing := false }

/-- A state whose call pointer has moved on (R123). -/
def pointed (s : State) (n : Nat) : State := { s with nextCall := n }

@[simp] theorem slot_pointed (s : State) (n : Nat) (j : Fin 4) : (pointed s n).slot j = s.slot j := rfl

@[simp] theorem slotTimer_pointed (s : State) (n : Nat) (j : Fin 4) : (pointed s n).slotTimer j = s.slotTimer j := rfl

@[simp] theorem record_pointed (s : State) (n : Nat) (q : Fin 24) : (pointed s n).record q = s.record q := rfl

@[simp] theorem slot_place (s : State) (kind : OutKind) (k j : Fin 4) : (s.place kind k).slot j = s.slot j := rfl

@[simp] theorem slotTimer_place (s : State) (kind : OutKind) (k j : Fin 4) :
    (s.place kind k).slotTimer j = s.slotTimer j := rfl

@[simp] theorem params_pointed (s : State) (n : Nat) : (pointed s n).params = s.params := rfl

@[simp] theorem params_place (s : State) (kind : OutKind) (k : Fin 4) : (s.place kind k).params = s.params := rfl

@[simp] theorem mode_pointed (s : State) (n : Nat) : (pointed s n).mode = s.mode := rfl

@[simp] theorem conflicts_pointed (s : State) (n : Nat) : (pointed s n).conflicts = s.conflicts := rfl

@[simp] theorem nextCall_pointed (s : State) (n : Nat) : (pointed s n).nextCall = n := rfl

@[simp] theorem mode_place (s : State) (kind : OutKind) (k : Fin 4) : (s.place kind k).mode = s.mode := rfl

@[simp] theorem conflicts_place (s : State) (kind : OutKind) (k : Fin 4) : (s.place kind k).conflicts = s.conflicts := rfl

@[simp] theorem nextCall_place (s : State) (kind : OutKind) (k : Fin 4) : (s.place kind k).nextCall = s.nextCall := rfl

@[simp] theorem record_place (s : State) (kind : OutKind) (k : Fin 4) (q : Fin 24) :
    (s.place kind k).record q = s.record q := rfl

/-- The state in which a slot has been opened and its CALL sent, before the others on the approach join. -/
def opened (s : State) (k : Fin 4) (r : Fin 24) (x : Record) (kind : ServiceKind) : State :=
  (((pointed s (nextNumber (s.freeNumber 15 s.nextCall))).setSlot k (openedSlot s r x kind)).setRecord r
    (some { x with state := .called, callSlot := some k })).placeAndWait .call k

section Opened

variable (s : State) (k : Fin 4) (r : Fin 24) (x : Record) (kind : ServiceKind)

theorem slot_opened (j : Fin 4) :
    (opened s k r x kind).slot j = if j = k then openedSlot s r x kind else s.slot j := by
  simp [opened, State.placeAndWait, slot_setSlot]

theorem slotTimer_opened (j : Fin 4) :
    (opened s k r x kind).slotTimer j =
      if j = k then some { kind := .response, left := s.params.responseTimeout } else s.slotTimer j := by
  simp [opened, State.placeAndWait, slotTimer_setSlotTimer]

theorem record_opened (q : Fin 24) :
    (opened s k r x kind).record q =
      if q = r then some { x with state := .called, callSlot := some k } else s.record q := by
  simp [opened, State.placeAndWait, record_setRecord]

theorem opened_nextCall : (opened s k r x kind).nextCall = nextNumber (s.freeNumber 15 s.nextCall) := by
  simp [opened, State.placeAndWait]

theorem opened_mode : (opened s k r x kind).mode = s.mode := by
  simp [opened, State.placeAndWait]

theorem opened_conflicts : (opened s k r x kind).conflicts = s.conflicts := by
  simp [opened, State.placeAndWait]

theorem openSlot_eq :
    s.openSlot k r x kind =
      let s2 := ((opened s k r x kind).count (.approach x.approach .calls)).markDue
      forEach (s2.candidates.filter (fun q => (s2.record q).any (fun z => z.approach = x.approach)))
        (fun q t => t.tryJoin q) s2 := rfl

end Opened

theorem callsLawful_opened {s : State} (hs : ActiveCalls s) {k : Fin 4} {r : Fin 24} {x : Record} {kind : ServiceKind}
    (hidle : (s.slot k).state = .idle) (hx : s.record r = some x) (hkind : s.openKind r = some kind) :
    CallsLawful (opened s k r x kind) := by
  obtain ⟨hheld, hconf, hwaiting⟩ := openKind_some hx hkind
  have hfree := unlinked_of_waiting hs.1.2 hx hwaiting
  have hempty : (s.slot k).members = [] := by
    by_contra hsome
    have hopen := open_of_members (slotFieldsFit_of_lawful hs.1.2 k) hsome
    rw [hidle] at hopen
    exact nomatch hopen
  have hslot : (opened s k r x kind).slot k = openedSlot s r x kind := by rw [slot_opened, if_pos rfl]
  refine callsLawful_of_slotChanged (s := s) (k := k) ⟨opened_mode .., opened_conflicts .., ?_, fun j hj => ?_,
    fun j hj => ?_, fun _ => ?_, ?_, ?_, ?_, fun q hq => ?_, fun q hq => ?_, fun q => ?_⟩ hs.1
  · rw [opened_nextCall]
    exact nextNumber_range (freeNumber_range s 15 s.nextCall hs.1.1.2.2.2.2)
  · rw [slot_opened, if_neg hj]
  · rw [slotTimer_opened, if_neg hj]
  · rw [hslot]
    exact mayHold_of_free hs k rfl rfl hheld hconf
  · rw [hslot]
    exact ⟨rfl, rfl, rfl, List.cons_ne_nil r [], rfl⟩
  · rw [hslot, slotTimer_opened, if_pos rfl]
    rfl
  · rw [hslot]
    exact List.nodup_singleton r
  · rw [hslot, openedSlot, List.mem_singleton] at hq
    rw [hslot, record_opened, if_pos hq]
    exact ⟨_, rfl, rfl, rfl, rfl⟩
  · rw [hslot, openedSlot, List.mem_singleton] at hq
    rw [record_opened, if_neg hq, hempty]
    exact .inr ⟨rfl, List.not_mem_nil⟩
  · rw [record_opened]
    split
    case isTrue he =>
      rw [he]
      exact .inr fun z hz j hj => nomatch (hfree z hz).1.symm.trans hj
    case isFalse => exact .inl rfl

theorem ActiveCalls.of_view {s t : State} (h : callView t = callView s) (hs : ActiveCalls s) : ActiveCalls t :=
  ⟨callsLawful_of_view h hs.1, (mode_of_view (slotView_of_view h)).trans hs.2⟩

theorem ActiveCalls.openNext {s t : State} (hs : ActiveCalls s) (h : s.openNext = some t) : ActiveCalls t := by
  unfold State.openNext at h
  split at h
  · split at h
    case h_1 r k _ hidle =>
      split at h
      case h_1 x kind hx hkind =>
        obtain rfl := Option.some.inj h
        rw [openSlot_eq]
        have hopened : ActiveCalls (opened s k r x kind) :=
          ⟨callsLawful_opened hs (lowestIdle_some hidle) hx hkind, (opened_mode ..).trans hs.2⟩
        exact forEach_keeps _ (fun q u hu => hu.tryJoin q) _ (hopened.of_view (by simp))
      case h_2 => exact nomatch h
    · exact nomatch h
  · exact nomatch h

theorem ActiveCalls.opening {s : State} (hs : ActiveCalls s) (rounds : Nat) : ActiveCalls (State.opening rounds s) := by
  induction rounds generalizing s with
  | zero => exact hs
  | succ rounds ih =>
    unfold State.opening
    split
    · exact hs
    case h_2 t ht => exact ih (hs.openNext ht)

/-! ### Preemption (R126, R127) -/

/-- The slots a preemption closes are open, and each is named once. -/
theorem preempted_open (s : State) : s.preempted.Nodup ∧ ∀ k ∈ s.preempted, (s.slot k).state.isOpen = true := by
  have hnone : ([] : List (Fin 4)).Nodup ∧ ∀ k ∈ ([] : List (Fin 4)), (s.slot k).state.isOpen = true :=
    ⟨List.nodup_nil, fun k hk => absurd hk List.not_mem_nil⟩
  unfold State.preempted
  split
  · split
    · exact hnone
    · split
      · exact hnone
      · dsimp only
        split
        case isTrue hways =>
          refine ⟨(List.nodup_finRange 4).filter _, fun k hk => (isOpen_iff _).mpr ⟨?_, ?_⟩⟩
          · have hconf := (List.mem_filter.mp hk).2
            simp only [State.slotConflicts, Bool.and_eq_true, decide_eq_true_eq] at hconf
            exact hconf.1
          · have hgives := List.all_eq_true.mp hways.2 k hk
            simp only [State.givesWay, Bool.and_eq_true, decide_eq_true_eq] at hgives
            exact hgives.1
        case isFalse => exact hnone
  · exact hnone

theorem callView_preemptSlot (s : State) (k : Fin 4) :
    callView (s.preemptSlot k) = callView (s.closeReturning k .preempt) := by
  unfold State.preemptSlot
  dsimp only
  split
  · rfl
  · exact callView_count _ _

theorem slot_closeReturning_ne (s : State) (k : Fin 4) (cause : CloseCause) (j : Fin 4) (hj : j ≠ k) :
    (s.closeReturning k cause).slot j = s.slot j := by
  rw [State.closeReturning, slot_of_view (slotView_returnMembers ..), ← slot_setSlot_ne s k (closed (s.slot k) cause) j hj]
  exact congrArg (·[j]) (closeSlot_slots s k cause)

/-- Open slots, each named once, are preempted in turn: those still to come stay open. -/
theorem callsLawful_preemptSlots (ks : List (Fin 4)) {s : State} (hs : CallsLawful s) (hnodup : ks.Nodup)
    (hopen : ∀ k ∈ ks, (s.slot k).state.isOpen = true) :
    CallsLawful (forEach ks (fun k t => t.preemptSlot k) s) := by
  induction ks generalizing s with
  | nil => exact hs
  | cons k ks ih =>
    obtain ⟨hk, hks⟩ := List.nodup_cons.mp hnodup
    have hview := callView_preemptSlot s k
    refine ih (callsLawful_of_view hview (callsLawful_closeReturning hs k _ (hopen k List.mem_cons_self))) hks
      fun j hj => ?_
    have hne : j ≠ k := fun he => hk (he ▸ hj)
    rw [slot_of_view (slotView_of_view hview), slot_closeReturning_ne s k _ j hne]
    exact hopen j (List.mem_cons_of_mem k hj)

/-- An evaluation, taken in ACTIVE alone, keeps the laws of calls. -/
theorem callsLawful_evaluate {s : State} (hs : ActiveCalls s) : CallsLawful s.evaluate := by
  have hjoined : ActiveCalls s.joining := forEach_keeps _ (fun r t ht => ht.tryJoin r) _ hs
  obtain ⟨hnodup, hopen⟩ := preempted_open (State.opening 4 s.joining)
  exact callsLawful_preemptSlots _ (hjoined.opening 4).1 hnodup hopen

end Sys2Proof.LoadedTables
end

section
/-! The request table, the phase port and the table store keep the laws of calls (R68, R87 to R103, R134, R146 to R151, R186,
R187). -/

namespace Sys2Proof.LoadedTables

open Sys2Proof.Machine Sys2Proof.Safety Sys2Proof.Laws

/-! ### The request table (R87 to R103) -/

theorem bestOf_mem {beats : Fin 24 → Fin 24 → Bool} {rs : List (Fin 24)} {r : Fin 24} (h : bestOf beats rs = some r) :
    r ∈ rs := by
  induction rs generalizing r with
  | nil => exact nomatch h
  | cons q rest ih =>
    unfold bestOf at h
    split at h
    · obtain rfl := Option.some.inj h
      exact List.mem_cons_self
    case h_2 b hb =>
      split at h
      · obtain rfl := Option.some.inj h
        exact List.mem_cons_of_mem q (ih hb)
      · obtain rfl := Option.some.inj h
        exact List.mem_cons_self

theorem waiting_of_waitingWith {s : State} {p : Record → Bool} {r : Fin 24} (h : s.waitingWith p r = true) :
    ∃ x, s.record r = some x ∧ x.state = .waiting := by
  rw [State.waitingWith, Option.any_eq_true_iff_get] at h
  obtain ⟨hsome, h⟩ := h
  rw [Bool.and_eq_true, decide_eq_true_eq] at h
  exact ⟨_, (Option.some_get hsome).symm, h.1⟩

/-- The victim of a full table is WAITING (R96). -/
theorem waiting_of_victim {s : State} {level : Nat} {r : Fin 24} (h : s.victim level = some r) :
    ∃ x, s.record r = some x ∧ x.state = .waiting := by
  unfold State.victim at h
  split at h
  case h_1 hbest =>
    obtain rfl := Option.some.inj h
    exact waiting_of_waitingWith (List.mem_filter.mp (bestOf_mem hbest)).2
  case h_2 => exact waiting_of_waitingWith (List.mem_filter.mp (bestOf_mem h)).2

theorem freeSlot_some {s : State} {r : Fin 24} (h : s.freeSlot = some r) : s.record r = none := by
  simpa using List.find?_some h

theorem callsLawful_createIn {s : State} (hs : CallsLawful s) (r : Fin 24) (x : Record)
    (hfree : Unlinked (s.record r)) (hx : Unlinked (some x)) : CallsLawful (s.createIn r x) :=
  callsLawful_of_view (callView_markDue _) (callsLawful_setRecord_unlinked hs hfree hx)

theorem callsLawful_createOrDisplace {s : State} (hs : CallsLawful s) (x : Record) (hx : Unlinked (some x)) :
    CallsLawful (s.createOrDisplace x) := by
  unfold State.createOrDisplace
  split
  case h_1 r hr =>
    refine callsLawful_createIn hs r x ?_ hx
    rw [freeSlot_some hr]
    exact unlinked_none
  case h_2 =>
    split
    case h_1 r hr =>
      obtain ⟨z, hz, hwaiting⟩ := waiting_of_victim hr
      refine callsLawful_createIn (callsLawful_takeOut hs r .displaced (unlinked_of_waiting hs.2 hz hwaiting)) r x ?_ hx
      rw [record_takeOut, if_pos rfl]
      exact unlinked_none
    case h_2 => exact callsLawful_of_view (by simp [State.dropFull]) hs

theorem refreshed_link (s : State) (x : Record) (rep : Report) (ap : Fin 8) (level : Nat) :
    (s.refreshed x rep ap level).callSlot = x.callSlot ∧ (s.refreshed x rep ap level).state = x.state := by
  unfold State.refreshed
  dsimp only
  split <;> exact ⟨rfl, rfl⟩

theorem callsLawful_takeCheckIn {s : State} (hs : CallsLawful s) (rep : Report) (ap : Fin 8) :
    CallsLawful (s.takeCheckIn rep ap) := by
  have hcounted : CallsLawful (s.count (.approach ap .checkIns)) := callsLawful_of_view (callView_count _ _) hs
  unfold State.takeCheckIn
  dsimp only
  generalize s.count (.approach ap .checkIns) = u at hcounted ⊢
  split
  case h_1 =>
    unfold State.checkInNew
    split
    · exact callsLawful_of_view (callView_count _ _) hcounted
    · exact callsLawful_createOrDisplace hcounted _ (unlinked_some rfl rfl)
  case h_2 r _ =>
    split
    · exact hcounted
    · split
      · exact hcounted
      case h_2 x hx =>
        unfold State.checkInFound
        split
        case isTrue hwaiting =>
          have hfree := unlinked_of_waiting hcounted.2 hx hwaiting
          split
          · exact callsLawful_takeOut hcounted r .refused hfree
          case h_2 level _ =>
            obtain ⟨hslot, hstate⟩ := refreshed_link u x rep ap level
            refine callsLawful_of_view (callView_markDue _) (callsLawful_setRecord_unlinked hcounted hfree ?_)
            exact unlinked_some (hslot.trans (hfree x hx).1) (hstate.trans hwaiting)
        case isFalse => exact callsLawful_setRecord_linked hcounted hx rfl rfl rfl

theorem callsLawful_takeCheckOut {s : State} (hs : CallsLawful s) (rep : Report) (ap : Fin 8) :
    CallsLawful (s.takeCheckOut rep ap) := by
  have hcounted : CallsLawful (s.count (.approach ap .checkOuts)) := callsLawful_of_view (callView_count _ _) hs
  have hremoved : CallsLawful ((s.count (.approach ap .checkOuts)).removeCheckedOut rep.vehicle) := by
    unfold State.removeCheckedOut
    split
    · exact hcounted
    · split
      · exact hcounted
      · exact callsLawful_removeRecord hcounted _ _ _
  unfold State.takeCheckOut
  dsimp only
  split
  · exact hremoved
  · exact callsLawful_of_view (callView_sendNotice ..) hremoved

theorem callsLawful_takeCancel {s : State} (hs : CallsLawful s) (rep : Report) : CallsLawful (s.takeCancel rep) := by
  unfold State.takeCancel
  split
  · exact hs
  · split
    · exact hs
    · exact callsLawful_removeRecord hs _ _ _

theorem callsLawful_handReport {s : State} (hs : CallsLawful s) (rep : Report) : CallsLawful (s.handReport rep) := by
  unfold State.handReport
  split
  · split
    · exact callsLawful_takeCheckIn hs rep _
    · exact callsLawful_of_view (callView_count _ _) hs
  · split
    · exact callsLawful_takeCheckOut hs rep _
    · exact callsLawful_of_view (callView_count _ _) hs
  · exact callsLawful_takeCancel hs rep

theorem callsLawful_takeNotice {s : State} (hs : CallsLawful s) (n : NoticeArrival) (ap : Fin 8) :
    CallsLawful (s.takeNotice n ap) := by
  have hcounted : CallsLawful (s.count (.approach ap .noticesIn)) := callsLawful_of_view (callView_count _ _) hs
  unfold State.takeNotice
  dsimp only
  generalize s.count (.approach ap .noticesIn) = u at hcounted ⊢
  split
  case h_1 =>
    unfold State.noticeNew
    split
    · exact callsLawful_of_view (callView_count _ _) hcounted
    · split
      · exact callsLawful_of_view (by simp [State.dropFull]) hcounted
      case h_2 r hr =>
        refine callsLawful_createIn hcounted r _ ?_ (unlinked_some rfl rfl)
        rw [freeSlot_some hr]
        exact unlinked_none
  case h_2 r _ =>
    split
    · exact hcounted
    case h_2 x hx =>
      unfold State.noticeFound
      split
      · exact callsLawful_of_view (callView_markDue _) (callsLawful_setRecord_linked hcounted hx rfl rfl rfl)
      · exact callsLawful_of_view (callView_count _ _) hcounted

theorem callsLawful_noticeFrameTaken {s : State} (hs : CallsLawful s) (f : LinkFrame) :
    CallsLawful (s.noticeFrameTaken f) := by
  unfold State.noticeFrameTaken
  split
  · split
    · exact callsLawful_of_view (callView_count _ _) hs
    · split
      · exact callsLawful_of_view (callView_count _ _) hs
      · exact callsLawful_takeNotice hs _ _
  · exact hs

/-! ### The phase port (R146 to R151) -/

theorem callsLawful_beginService {s : State} (hs : CallsLawful s) (k : Fin 4) (hopen : (s.slot k).state.isOpen = true) :
    CallsLawful (s.beginService k) :=
  callsLawful_advanceSlot hs k .serving _ hopen rfl rfl

theorem slot_countOnSlot (s : State) (k : Fin 4) (c : ApproachCounter) (j : Fin 4) :
    (s.countOnSlot k c).slot j = s.slot j :=
  slot_of_view (slotView_of_view (callView_countOnSlot s k c)) j

section Messages

variable {s : State} (hs : CallsLawful s) (k : Fin 4)

include hs

theorem callsLawful_stray : CallsLawful s.stray := callsLawful_of_view (callView_stray s) hs

theorem callsLawful_countOnSlot (c : ApproachCounter) : CallsLawful (s.countOnSlot k c) :=
  callsLawful_of_view (callView_countOnSlot s k c) hs

theorem callsLawful_acceptFor : CallsLawful (s.acceptFor k) := by
  unfold State.acceptFor
  split
  case h_1 hcalled =>
    refine callsLawful_advanceSlot (callsLawful_countOnSlot hs k .accepts) k .granted _ ?_ rfl rfl
    rw [slot_countOnSlot, hcalled]
    rfl
  all_goals exact callsLawful_stray hs

theorem callsLawful_startFor : CallsLawful (s.startFor k) := by
  unfold State.startFor
  split
  case h_1 hcalled =>
    refine callsLawful_beginService (callsLawful_countOnSlot hs k .accepts) k ?_
    rw [slot_countOnSlot, hcalled]
    rfl
  case h_2 hgranted => exact callsLawful_beginService hs k (by rw [hgranted]; rfl)
  all_goals exact callsLawful_stray hs

theorem callsLawful_denySlot (reason : DenyReason) : CallsLawful (s.denySlot k reason) := by
  have hcounted := callsLawful_countOnSlot hs k .denies
  unfold State.denySlot
  rw [← setSlot_slot (s.countOnSlot k .denies) k]
  exact callsLawful_idleReturning hcounted k _ rfl _ _

theorem callsLawful_denyFor (reason : DenyReason) : CallsLawful (s.denyFor k reason) := by
  unfold State.denyFor
  split
  case h_1 | h_2 => exact callsLawful_denySlot hs k reason
  all_goals exact callsLawful_stray hs

theorem callsLawful_endServing (reason : EndReason) : CallsLawful (s.endServing k reason) := by
  have hidled := callsLawful_idleReturning hs k { s.slot k with wasServing := true } rfl none none
  unfold State.endServing
  dsimp only
  split
  · exact hidled
  · exact callsLawful_of_view (callView_raise _ _) hidled
  · exact callsLawful_of_view (by simp) hidled

theorem callsLawful_endFor (reason : EndReason) : CallsLawful (s.endFor k reason) := by
  unfold State.endFor
  split
  case h_1 | h_2 => exact callsLawful_denySlot hs k .notNow
  case h_3 => exact callsLawful_endServing hs k reason
  case h_4 hclosing => exact callsLawful_idleSlot_of_closing hs k hclosing
  case h_5 => exact callsLawful_stray hs

/-- A slot message acts on its slot or is stray (R145). -/
theorem callsLawful_forCall (n : Nat) (act : Fin 4 → State → State)
    (hact : ∀ k t, CallsLawful t → CallsLawful (act k t)) : CallsLawful (s.forCall n act) := by
  unfold State.forCall
  split
  · exact callsLawful_stray hs
  · exact hact _ s hs

end Messages

/-! ### Retirement (R68) -/

/-- A record on an approach. -/
def onApproach (ap : Fin 8) (o : Option Record) : Bool := o.any (fun x => x.approach = ap)

theorem onApproach_some (ap : Fin 8) (x : Record) : onApproach ap (some x) = true ↔ x.approach = ap := by
  simp [onApproach]

/-- One record slot's part in a retirement (R68, R111). -/
def retireOne (ap : Fin 8) (r : Fin 24) (t : State) : State :=
  if onApproach ap (t.record r) then t.takeOut r .retired else t

theorem retireRecords_eq (s : State) (ap : Fin 8) : s.retireRecords ap = forEach recordSlots (retireOne ap) s := rfl

theorem record_retireOne (ap : Fin 8) (r : Fin 24) (t : State) (q : Fin 24) :
    (retireOne ap r t).record q = if q = r ∧ onApproach ap (t.record r) = true then none else t.record q := by
  unfold retireOne
  by_cases hon : onApproach ap (t.record r) = true
  · simp [hon, record_takeOut]
  · simp [hon]

theorem record_retireEach (ap : Fin 8) (rs : List (Fin 24)) (s : State) (q : Fin 24) :
    (forEach rs (retireOne ap) s).record q =
      if q ∈ rs ∧ onApproach ap (s.record q) = true then none else s.record q := by
  induction rs generalizing s with
  | nil => simp
  | cons r rest ih =>
    rw [forEach_cons, ih, record_retireOne]
    by_cases hq : q = r
    · subst hq
      by_cases hon : onApproach ap (s.record q) = true <;> simp [hon]
    · simp [hq]

theorem record_retireRecords (s : State) (ap : Fin 8) (q : Fin 24) :
    (s.retireRecords ap).record q = if onApproach ap (s.record q) then none else s.record q := by
  rw [retireRecords_eq, record_retireEach]
  simp [recordSlots]

theorem slotView_retireRecords (s : State) (ap : Fin 8) : slotView (s.retireRecords ap) = slotView s := by
  rw [retireRecords_eq]
  generalize recordSlots = rs
  induction rs generalizing s with
  | nil => rfl
  | cons r rest ih =>
    rw [forEach_cons, ih, retireOne]
    split
    · exact slotView_takeOut s r .retired
    · rfl

theorem openSlotOf_of_view {s t : State} (h : slotView t = slotView s) (ap : Fin 8) :
    t.openSlotOf ap = s.openSlotOf ap := by
  simp only [State.openSlotOf, slot_of_view h]

/-- A record on an approach names no slot but an open one of that approach. -/
theorem openSlot_of_record {s : State} (hs : MembersAgree s) {r : Fin 24} {x : Record} {j : Fin 4}
    (hx : s.record r = some x) (hj : x.callSlot = some j) :
    (s.slot j).state.isOpen = true ∧ (s.slot j).approach = some x.approach := by
  have hmem := member_of_record hs hx hj
  obtain ⟨z, hz, _, hap, _⟩ := record_of_member hs hmem
  obtain rfl := Option.some.inj (hz.symm.trans hx)
  exact ⟨open_of_member hs hmem, hap⟩

theorem callsLawful_retire {s : State} (hs : CallsLawful s) (ap : Fin 8) : CallsLawful (s.retire ap) := by
  have hview := slotView_retireRecords s ap
  unfold State.retire
  dsimp only
  rw [openSlotOf_of_view hview]
  split
  case h_1 hnone =>
    refine callsLawful_of_freed hview hs fun q => ?_
    rw [record_retireRecords]
    by_cases hon : onApproach ap (s.record q) = true
    · rw [if_pos hon]
      refine .inr ⟨fun x hx => ?_, unlinked_none⟩
      rw [Option.mem_def.mp hx, onApproach_some] at hon
      cases hj : x.callSlot with
      | none => exact ⟨rfl, (callSlot_eq_none_iff hs.2 hx).mp hj⟩
      | some j =>
        obtain ⟨hopen, hap⟩ := openSlot_of_record hs.2 hx hj
        exact absurd (hon ▸ hap) (openSlotOf_none hnone j hopen)
    · rw [if_neg hon]
      exact .inl rfl
  case h_2 k hk =>
    obtain ⟨hopen, hap⟩ := openSlotOf_some hk
    refine callsLawful_of_slotGone ((slotGone_closeSlot (s.retireRecords ap) k .retire ?_).congr hview.symm rfl) hs
      fun q => ?_
    · rwa [slot_of_view hview]
    · rw [record_closeSlot, record_retireRecords]
      by_cases hon : onApproach ap (s.record q) = true
      · rw [if_pos hon]
        refine .inr ⟨unlinked_none, fun x hx j hj => by_contra fun hne => ?_⟩
        rw [Option.mem_def.mp hx, onApproach_some] at hon
        obtain ⟨hjopen, hjap⟩ := openSlot_of_record hs.2 hx hj
        have happart := hs.1.2.1 j k hne ((isOpen_iff _).mp hjopen).1 ((isOpen_iff _).mp hopen).1
        exact (happart.2 _ hjap ap hap).1 hon
      · rw [if_neg hon]
        refine .inl ⟨rfl, fun hmem => hon ?_⟩
        obtain ⟨x, hx, _, hxap, _⟩ := record_of_member hs.2 hmem
        rw [hx, onApproach_some]
        exact Option.some.inj (hxap.symm.trans hap)

/-! ### WRITE ENTRY (R63 to R78) -/

@[simp] theorem callView_storeApproach (s : State) (ap : Fin 8) (e : ApproachEntry) :
    callView (s.storeApproach ap e) = callView s := rfl

theorem callsLawful_writeApproach {s : State} (hs : CallsLawful s) (ap : Fin 8) (force : Bool) (contents : List Byte) :
    CallsLawful (s.writeApproach ap force contents).1 := by
  unfold State.writeApproach
  dsimp only
  split
  · exact hs
  · split
    · exact hs
    · refine callsLawful_of_view (callView_markDue _) ?_
      refine callsLawful_of_view (callView_storeApproach _ _ _) ?_
      split
      · exact callsLawful_retire hs ap
      · exact hs

theorem callsLawful_writeRoute {s : State} (hs : CallsLawful s) (i : Fin 64) (contents : List Byte) :
    CallsLawful (s.writeRoute i contents).1 := by
  unfold State.writeRoute
  dsimp only
  split
  · exact hs
  · split
    · exact hs
    · exact callsLawful_of_view rfl hs

theorem callsLawful_writeParams {s : State} (hs : CallsLawful s) (contents : List Byte) :
    CallsLawful (s.writeParams contents).1 := by
  have hstore (e : Params) : callView (s.storeParams e) = callView s := rfl
  unfold State.writeParams
  dsimp only
  split
  · exact hs
  · split
    · exact hs
    · exact callsLawful_of_view (by simp [hstore]) hs

/-- CONFLICTS are written in STANDBY alone, where every slot is IDLE and so no two calls can come to conflict. -/
theorem callsLawful_writeConflicts {s : State} (hs : CallsLawful s) (hm : s.mode = .standby) (contents : List Byte) :
    CallsLawful (s.writeConflicts contents).1 := by
  unfold State.writeConflicts
  split
  · exact hs
  · obtain ⟨⟨hquiet, _, hrange, hsome, hnext⟩, hmembers⟩ := hs
    have hidle := hquiet (by rw [hm]; exact fun h => nomatch h)
    exact ⟨⟨hquiet, fun k _ _ hk => absurd (hidle k) hk, hrange, hsome, hnext⟩, hmembers⟩

theorem callsLawful_writeEntryRequest {s : State} (hs : CallsLawful s) (b : List Byte) :
    CallsLawful (writeEntryRequest b s).1 := by
  unfold writeEntryRequest
  split
  · exact hs
  case h_2 t _ =>
    dsimp only
    split_ifs with _ hmode
    · exact hs
    · exact hs
    · exact hs
    · cases t with
      | approach => exact callsLawful_writeApproach hs _ _ _
      | route => exact callsLawful_writeRoute hs _ _
      | conflicts => exact callsLawful_writeConflicts hs (by simpa using hmode) _
      | params => exact callsLawful_writeParams hs _

/-! ### COMMISSION and DECOMMISSION (R134, R186, R187) -/

theorem callsLawful_commissionRequest {s : State} (hs : CallsLawful s) (b : List Byte) :
    CallsLawful (commissionRequest b s).1 := by
  unfold commissionRequest
  split
  · split
    · exact hs
    · obtain ⟨⟨_, hapart⟩, hmembers⟩ := hs
      exact ⟨⟨fun hm => absurd rfl hm, hapart⟩, hmembers⟩
  · exact hs

/-- With every slot IDLE and every record slot free, only the call pointer is to be in its range. -/
theorem callsLawful_of_empty {s : State} (hslot : ∀ k, s.slot k = .idle) (htimer : ∀ k, s.slotTimer k = none)
    (hrecord : ∀ r, s.record r = none) (hnext : 1 ≤ s.nextCall ∧ s.nextCall ≤ 15) : CallsLawful s := by
  have hidle (k : Fin 4) : (s.slot k).state = .idle := by
    rw [hslot]
    rfl
  refine ⟨⟨fun _ => hidle, fun k _ _ hk => absurd (hidle k) hk, fun k hk => absurd (hidle k) hk,
    fun k hk => absurd (hidle k) hk, hnext⟩, fun k => ?_, fun k r hr => ?_, fun r x hx => ?_⟩
  · rw [hslot, htimer]
    exact ⟨rfl, rfl, List.nodup_nil⟩
  · rw [hslot] at hr
    exact nomatch hr
  · rw [hrecord] at hx
    exact nomatch hx

theorem record_takeOutEach (rs : List (Fin 24)) (s : State) (q : Fin 24) :
    (forEach rs (fun r t => t.takeOut r .retired) s).record q = if q ∈ rs then none else s.record q := by
  induction rs generalizing s with
  | nil => simp
  | cons r rest ih =>
    rw [forEach_cons, ih, record_takeOut]
    by_cases hq : q = r <;> simp [hq]

theorem slotView_giveUp (s : State) (k : Fin 4) :
    slotView (s.giveUp k) = slotView ((s.setSlot k .idle).setSlotTimer k none) := by
  unfold State.giveUp
  dsimp only
  split <;> rfl

theorem record_giveUp (s : State) (k : Fin 4) (r : Fin 24) : (s.giveUp k).record r = s.record r := by
  unfold State.giveUp
  dsimp only
  split <;> rfl

theorem slot_giveUpEach (ks : List (Fin 4)) (s : State) (j : Fin 4) :
    (forEach ks (fun k t => t.giveUp k) s).slot j = if j ∈ ks then .idle else s.slot j := by
  induction ks generalizing s with
  | nil => simp
  | cons k rest ih =>
    rw [forEach_cons, ih, slot_of_view (slotView_giveUp s k), slot_setSlotTimer, slot_setSlot]
    by_cases hj : j = k <;> simp [hj]

theorem slotTimer_giveUpEach (ks : List (Fin 4)) (s : State) (j : Fin 4) :
    (forEach ks (fun k t => t.giveUp k) s).slotTimer j = if j ∈ ks then none else s.slotTimer j := by
  induction ks generalizing s with
  | nil => simp
  | cons k rest ih =>
    rw [forEach_cons, ih, slotTimer_of_view (slotView_giveUp s k), slotTimer_setSlotTimer, slotTimer_setSlot]
    by_cases hj : j = k <;> simp [hj]

theorem callsLawful_decommission {s : State} (hs : CallsLawful s) : CallsLawful s.decommission := by
  have hempty : ∀ r, s.retireAll.record r = none := fun r =>
    (record_takeOutEach recordSlots s r).trans (if_pos (List.mem_finRange r))
  have hpointer : s.retireAll.nextCall = s.nextCall :=
    forEach_keeps (P := fun t => t.nextCall = s.nextCall) _
      (fun r t ht => (nextCall_of_view (slotView_takeOut t r .retired)).trans ht) recordSlots rfl
  unfold State.decommission
  dsimp only
  generalize s.retireAll = u at hempty hpointer ⊢
  have hslot := fun k => (slot_giveUpEach callSlots u k).trans (if_pos (List.mem_finRange k))
  have htimer := fun k => (slotTimer_giveUpEach callSlots u k).trans (if_pos (List.mem_finRange k))
  have hrecord : ∀ r, (forEach callSlots (fun k t => t.giveUp k) u).record r = none :=
    forEach_keeps (P := fun t => ∀ r, t.record r = none) _ (fun k t ht r => (record_giveUp t k r).trans (ht r)) _ hempty
  have hnext : (forEach callSlots (fun k t => t.giveUp k) u).nextCall = s.nextCall :=
    forEach_keeps (P := fun t => t.nextCall = s.nextCall) _
      (fun k t ht => (nextCall_of_view (slotView_giveUp t k)).trans ht) _ hpointer
  generalize forEach callSlots (fun k t => t.giveUp k) u = v at hslot htimer hrecord hnext ⊢
  exact callsLawful_of_empty hslot htimer hrecord (hnext ▸ hs.1.2.2.2.2)

end Sys2Proof.LoadedTables
end

section
/-! Every command, and so every step, keeps calls apart and slots and members in agreement. -/

namespace Sys2Proof.LoadedTables

open Sys2Proof.Machine Sys2Proof.Safety Sys2Proof.Laws Sys2Proof.CorridorPorts

/-! ### What a command answers -/

/-- Whatever state an outcome answers is lawful when the state before was. -/
def KeepsCalls (s : State) (o : Host.Outcome State Fault Refusal) : Prop :=
  ∀ t, o = .next t → CallsLawful s → CallsLawful t

theorem keepsCalls_noEvent (s : State) : KeepsCalls s (noEvent s) := by
  rintro t ⟨⟩
  exact id

theorem keepsCalls_taken {s u : State} (h : CallsLawful s → CallsLawful u) : KeepsCalls s (taken u) := by
  rintro t ⟨⟩ hs
  exact callsLawful_of_view (callView_endEvent u) (h hs)

/-- An event that writes nothing the laws of calls read keeps them. -/
theorem keepsCalls_view {s u : State} (h : callView u = callView s) : KeepsCalls s (taken u) :=
  keepsCalls_taken (callsLawful_of_view h)

theorem keepsCalls_ite {c : Prop} [Decidable c] {s : State} {o q : Host.Outcome State Fault Refusal}
    (ho : c → KeepsCalls s o) (hq : ¬ c → KeepsCalls s q) : KeepsCalls s (if c then o else q) := by
  split
  · exact ho ‹c›
  · exact hq ‹¬ c›

theorem takeHead_callView {s t : State} {row : HandlerRow} {x : InboundFrame} (h : s.takeHead row = some (x, t)) :
    callView t = callView s := by
  unfold State.takeHead at h
  split at h
  · exact nomatch h
  · split at h
    · injection h with h
      injection h with _ h
      rw [← h]
      rfl
    · exact nomatch h

/-- A request keeps what carrying it out keeps. -/
theorem keepsCalls_request (row : HandlerRow) (carryOut : List Byte → State → State × Answer)
    (hcarry : ∀ b t, CallsLawful t → CallsLawful (carryOut b t).1) (s : State) :
    KeepsCalls s (request row carryOut s) := by
  unfold request
  split
  · exact keepsCalls_noEvent s
  case h_2 x t htake =>
    exact keepsCalls_taken fun hs => callsLawful_of_view (callView_reply ..)
      (hcarry _ t (callsLawful_of_view (takeHead_callView htake) hs))

/-- A request that writes nothing the laws of calls read keeps them. -/
theorem keepsCalls_request_view (row : HandlerRow) (carryOut : List Byte → State → State × Answer)
    (hcarry : ∀ b t, callView (carryOut b t).1 = callView t) (s : State) : KeepsCalls s (request row carryOut s) :=
  keepsCalls_request row carryOut (fun b t => callsLawful_of_view (hcarry b t)) s

/-! ### Corridor rows -/

section Corridor

variable (p : Port) (s : State)

theorem keepsCalls_frameStart (more : List SerialChar) : KeepsCalls s (execFrameStart p more s) := by
  refine keepsCalls_ite (fun _ => ?_) (fun _ => keepsCalls_noEvent s)
  split
  · exact keepsCalls_view (callView_setReceiver ..)
  · exact keepsCalls_noEvent s
  · exact keepsCalls_noEvent s

theorem keepsCalls_validFrame (chars : List SerialChar) : KeepsCalls s (execValidFrame p chars s) := by
  unfold execValidFrame
  split
  · exact keepsCalls_view (by simp)
  · exact keepsCalls_noEvent s

theorem keepsCalls_crcError (chars : List SerialChar) : KeepsCalls s (execCrcError p chars s) := by
  unfold execCrcError
  split
  · exact keepsCalls_view (by simp)
  · exact keepsCalls_noEvent s

theorem keepsCalls_lengthError (chars : List SerialChar) : KeepsCalls s (execLengthError p chars s) := by
  unfold execLengthError
  split
  · exact keepsCalls_view (by simp)
  · exact keepsCalls_noEvent s

theorem keepsCalls_corridorRxIdle : KeepsCalls s (execCorridorRxIdle p s) := by
  unfold execCorridorRxIdle
  split <;> exact keepsCalls_view (by simp)

theorem keepsCalls_txStart : KeepsCalls s (execTxStart p s) := by
  refine keepsCalls_ite (fun _ => ?_) (fun _ => keepsCalls_noEvent s)
  split
  case h_1 hstart => exact keepsCalls_view (callView_startChosen hstart)
  case h_2 => exact keepsCalls_noEvent s

theorem keepsCalls_frameTxEnd : KeepsCalls s (execFrameTxEnd p s) := by
  unfold execFrameTxEnd
  split
  · exact keepsCalls_noEvent s
  · dsimp only
    split <;> exact keepsCalls_view (by simp)

theorem keepsCalls_fillTimerExpiry : KeepsCalls s (execFillTimerExpiry p s) :=
  keepsCalls_ite
    (fun _ => keepsCalls_ite (fun _ => keepsCalls_view (by simp [State.startFill])) (fun _ => keepsCalls_view (by simp)))
    (fun _ => keepsCalls_noEvent s)

theorem keepsCalls_holdTimerExpiry : KeepsCalls s (execHoldTimerExpiry p s) := by
  unfold execHoldTimerExpiry
  dsimp only
  split
  · exact keepsCalls_noEvent s
  · exact keepsCalls_view (by simp)

theorem keepsCalls_holdRepeatExpiry : KeepsCalls s (execHoldRepeatExpiry p s) := by
  unfold execHoldRepeatExpiry
  dsimp only
  split
  · exact keepsCalls_noEvent s
  · exact keepsCalls_view (by simp)

theorem keepsCalls_silenceTimerExpiry : KeepsCalls s (execSilenceTimerExpiry p s) :=
  keepsCalls_ite (fun _ => keepsCalls_view (by simp)) (fun _ => keepsCalls_noEvent s)

theorem keepsCalls_drainComplete : KeepsCalls s (execDrainComplete p s) :=
  keepsCalls_ite (fun _ => keepsCalls_view (by simp)) (fun _ => keepsCalls_noEvent s)

theorem keepsCalls_portControl (row : HandlerRow) (action : Nat) (act : Port → State → State × Status)
    (hact : ∀ q t, callView (act q t).1 = callView t) : KeepsCalls s (request row (portControl action act) s) := by
  refine keepsCalls_request_view row _ (fun b t => ?_) s
  unfold portControl
  split
  · rfl
  · split
    · rfl
    · exact hact _ t

end Corridor

/-! ### Beacon rows -/

section Beacon

variable (l : Fin 8) (s : State)

theorem keepsCalls_reportStart (parityBit : Bool) (more : List BeaconChar) :
    KeepsCalls s (execReportStart l parityBit more s) := by
  refine keepsCalls_ite (fun _ => ?_) (fun _ => keepsCalls_noEvent s)
  split
  · exact keepsCalls_view (callView_setLine ..)
  · exact keepsCalls_noEvent s
  · exact keepsCalls_noEvent s

theorem keepsCalls_reportComplete (chars : List BeaconChar) : KeepsCalls s (execReportComplete l chars s) := by
  unfold execReportComplete
  split
  · exact keepsCalls_view (callView_reportEnded ..)
  · exact keepsCalls_view (callView_setLine ..)
  · exact keepsCalls_noEvent s
  · exact keepsCalls_noEvent s

theorem keepsCalls_beaconLineIdle : KeepsCalls s (execBeaconLineIdle l s) := by
  refine keepsCalls_ite (fun _ => ?_) (fun _ => keepsCalls_noEvent s)
  split
  · exact keepsCalls_view (callView_setLine ..)
  · exact keepsCalls_view rfl
  · exact keepsCalls_view (callView_reportEnded ..)

theorem keepsCalls_lineDrainComplete (how : ReportEnd) : KeepsCalls s (execLineDrainComplete l how s) := by
  unfold execLineDrainComplete
  split
  · exact keepsCalls_view (callView_drainReport ..)
  · split
    · exact keepsCalls_view (callView_drainReport ..)
    · exact keepsCalls_noEvent s
  · exact keepsCalls_noEvent s

theorem keepsCalls_lineControl (row : HandlerRow) (action : Nat) (act : Fin 8 → State → State × Status)
    (hact : ∀ j t, callView (act j t).1 = callView t) : KeepsCalls s (request row (lineControl action act) s) := by
  refine keepsCalls_request_view row _ (fun b t => ?_) s
  unfold lineControl
  split
  · rfl
  · split
    · rfl
    · exact hact _ t

end Beacon

theorem keepsCalls_reportTake (s : State) : KeepsCalls s (execReportTake s) := by
  unfold execReportTake
  split
  · exact keepsCalls_noEvent s
  case h_2 l rep _ =>
    have hpointer (t : State) : callView { t with reportPointer := l } = callView t := rfl
    have htaken : callView ({ s.setLine l { s.line l with buffer := none } with reportPointer := l }.count
        (.beacon l .reportsGood)) = callView s := by
      rw [callView_count, hpointer, callView_setLine]
    exact keepsCalls_ite (fun _ => keepsCalls_taken fun hs => callsLawful_handReport (callsLawful_of_view htaken hs) rep)
      (fun _ => keepsCalls_view htaken)

/-! ### Rows of records, evaluations and lockouts -/

section Records

variable (r : Fin 24) (s : State)

theorem keepsCalls_etaExpiry : KeepsCalls s (execEtaExpiry r s) := by
  unfold execEtaExpiry
  split
  · exact keepsCalls_noEvent s
  case h_2 x hx => exact keepsCalls_taken fun hs => callsLawful_setRecord_linked hs hx rfl rfl rfl

theorem keepsCalls_lifetimeExpiry : KeepsCalls s (execLifetimeExpiry r s) := by
  unfold execLifetimeExpiry
  split
  · exact keepsCalls_noEvent s
  · exact keepsCalls_taken fun hs => callsLawful_removeRecord hs r _ _

theorem keepsCalls_holdOffExpiry : KeepsCalls s (execHoldOffExpiry r s) := by
  unfold execHoldOffExpiry
  split
  · exact keepsCalls_noEvent s
  case h_2 x hx =>
    split
    · exact keepsCalls_noEvent s
    · exact keepsCalls_taken fun hs =>
        callsLawful_of_view (callView_markDue _) (callsLawful_setRecord_linked hs hx rfl rfl rfl)

theorem keepsCalls_evaluation : KeepsCalls s (execEvaluation s) := by
  refine keepsCalls_ite (fun ⟨hm, _⟩ => keepsCalls_taken fun hs => callsLawful_evaluate ?_) (fun _ => keepsCalls_noEvent s)
  exact ActiveCalls.of_view (s := s) rfl ⟨hs, hm⟩

theorem keepsCalls_lockoutExpiry (ap : Fin 8) : KeepsCalls s (execLockoutExpiry ap s) := by
  unfold execLockoutExpiry
  split
  · exact keepsCalls_noEvent s
  · exact keepsCalls_view (by simp)

end Records

/-! ### Phase-port rows -/

section Phase

variable (chars : List SerialChar) (k : Fin 4) (s : State)

theorem keepsCalls_messageStart : KeepsCalls s (execMessageStart chars s) := by
  unfold execMessageStart
  split
  · exact keepsCalls_noEvent s
  · split
    · exact keepsCalls_view rfl
    · exact keepsCalls_noEvent s
    · exact keepsCalls_noEvent s

theorem keepsCalls_phases : KeepsCalls s (execPhases chars s) := by
  unfold execPhases
  split
  · exact keepsCalls_view (by simp)
  · exact keepsCalls_noEvent s

/-- A message that acts on the slot of its call keeps what the act keeps (R144, R145). -/
theorem keepsCalls_forCall (n : Nat) (act : Fin 4 → State → State)
    (hact : ∀ k t, CallsLawful t → CallsLawful (act k t)) : KeepsCalls s (taken (s.validMessage.forCall n act)) :=
  keepsCalls_taken fun hs => callsLawful_forCall (callsLawful_of_view (callView_validMessage s) hs) n act hact

theorem keepsCalls_accept : KeepsCalls s (execAccept chars s) := by
  unfold execAccept
  split
  · exact keepsCalls_forCall s _ _ fun k t ht => callsLawful_acceptFor ht k
  · exact keepsCalls_noEvent s

theorem keepsCalls_start : KeepsCalls s (execStart chars s) := by
  unfold execStart
  split
  · exact keepsCalls_forCall s _ _ fun k t ht => callsLawful_startFor ht k
  · exact keepsCalls_noEvent s

theorem keepsCalls_deny : KeepsCalls s (execDeny chars s) := by
  unfold execDeny
  split
  · exact keepsCalls_forCall s _ _ fun k t ht => callsLawful_denyFor ht k _
  · exact keepsCalls_noEvent s

theorem keepsCalls_end : KeepsCalls s (execEnd chars s) := by
  unfold execEnd
  split
  · exact keepsCalls_forCall s _ _ fun k t ht => callsLawful_endFor ht k _
  · exact keepsCalls_noEvent s

theorem keepsCalls_invalidMessage : KeepsCalls s (execInvalidMessage chars s) := by
  unfold execInvalidMessage
  split
  · exact keepsCalls_view (by simp)
  · exact keepsCalls_noEvent s

theorem keepsCalls_messageCutOff : KeepsCalls s (execMessageCutOff s) := by
  unfold execMessageCutOff
  split
  · exact keepsCalls_noEvent s
  · exact keepsCalls_view (by simp)

theorem keepsCalls_messageTxEnd : KeepsCalls s (execMessageTxEnd s) := by
  unfold execMessageTxEnd
  split
  · exact keepsCalls_noEvent s
  · exact keepsCalls_view rfl

theorem keepsCalls_readyLineChange (level : ReadyLevel) : KeepsCalls s (execReadyLineChange level s) :=
  keepsCalls_ite (fun _ => keepsCalls_noEvent s) (fun _ => keepsCalls_view (by simp))

theorem keepsCalls_phaseAgeExpiry : KeepsCalls s (execPhaseAgeExpiry s) :=
  keepsCalls_ite (fun _ => keepsCalls_view (by simp)) (fun _ => keepsCalls_noEvent s)

theorem keepsCalls_responseTimeout : KeepsCalls s (execResponseTimeout k s) := by
  refine keepsCalls_ite (fun _ => ?_) (fun _ => keepsCalls_noEvent s)
  split
  case h_1 hcalled =>
    exact keepsCalls_taken fun hs => callsLawful_of_view (callView_responseMissed _)
      (callsLawful_closeReturning hs k _ (by rw [hcalled]; rfl))
  case h_2 hclosing =>
    exact keepsCalls_taken fun hs => callsLawful_of_view (callView_responseMissed _)
      (callsLawful_idleSlot_of_closing hs k hclosing)
  all_goals exact keepsCalls_noEvent s

theorem keepsCalls_startLimitExpiry : KeepsCalls s (execStartLimitExpiry k s) :=
  keepsCalls_ite
    (fun ⟨_, hgranted⟩ => keepsCalls_taken fun hs => callsLawful_closeReturning hs k _ (by rw [hgranted]; rfl))
    (fun _ => keepsCalls_noEvent s)

theorem keepsCalls_serviceLimitExpiry : KeepsCalls s (execServiceLimitExpiry k s) :=
  keepsCalls_ite
    (fun ⟨_, hserving⟩ => keepsCalls_taken fun hs => callsLawful_closeReturning hs k _ (by rw [hserving]; rfl))
    (fun _ => keepsCalls_noEvent s)

end Phase

/-! ### Handler rows and resets -/

section Handler

variable (s : State)

theorem keepsCalls_time : KeepsCalls s (execTime s) := by
  unfold execTime
  split
  · exact keepsCalls_noEvent s
  case h_2 x u htake =>
    have hview := takeHead_callView htake
    split
    · exact keepsCalls_view hview
    · exact keepsCalls_view (Eq.trans (b := callView u) rfl hview)

theorem keepsCalls_noticeReceive : KeepsCalls s (execNoticeReceive s) := by
  unfold execNoticeReceive
  split
  · exact keepsCalls_noEvent s
  case h_2 htake =>
    exact keepsCalls_taken fun hs => callsLawful_noticeFrameTaken (callsLawful_of_view (takeHead_callView htake) hs) _

theorem keepsCalls_unknownKind : KeepsCalls s (execUnknownKind s) := by
  unfold execUnknownKind
  split
  · exact keepsCalls_noEvent s
  case h_2 htake => exact keepsCalls_view ((callView_count _ _).trans (takeHead_callView htake))

theorem keepsCalls_reset (straps : BitVec 6) (level : ReadyLevel) : KeepsCalls s (execPowerOn straps level s) := by
  rintro t ⟨⟩ _
  exact ⟨callsApart_afterReset straps level _ _, membersAgree_afterReset straps level _ _⟩

theorem callView_identifyRequest (b : List Byte) : callView (identifyRequest b s).1 = callView s := by
  unfold identifyRequest
  split
  · rfl
  · split <;> rfl

theorem callView_readTableRequest (b : List Byte) : callView (readTableRequest b s).1 = callView s := by
  unfold readTableRequest
  split
  · rfl
  · split <;> rfl

theorem callView_verifyTableRequest (b : List Byte) : callView (verifyTableRequest b s).1 = callView s := by
  unfold verifyTableRequest
  split
  · rfl
  · dsimp only
    split <;> rfl

theorem callView_readRecordsRequest (b : List Byte) : callView (readRecordsRequest b s).1 = callView s := by
  unfold readRecordsRequest
  split <;> rfl

theorem callView_readCountersRequest (b : List Byte) : callView (readCountersRequest b s).1 = callView s := by
  unfold readCountersRequest
  split
  · rfl
  · split
    · rfl
    · dsimp only
      split <;> rfl

theorem keepsCalls_withdraw : KeepsCalls s (execWithdraw s) := by
  refine keepsCalls_request _ _ (fun b t ht => ?_) s
  unfold withdrawRequest
  split
  · exact ht
  · split
    · exact ht
    · exact callsLawful_removeRecord ht _ _ _

theorem keepsCalls_decommission : KeepsCalls s (execDecommission s) := by
  refine keepsCalls_request _ _ (fun b t ht => ?_) s
  unfold decommissionRequest
  split
  · exact callsLawful_decommission ht
  · exact ht

end Handler

/-- Every command keeps the laws of calls. -/
theorem keepsCalls_exec (c : Instr) (s : State) : KeepsCalls s (exec c s) := by
  cases c with
  | powerOn straps level | resetPin straps level => exact keepsCalls_reset s straps level
  | validFrame p chars => exact keepsCalls_validFrame p s chars
  | crcError p chars => exact keepsCalls_crcError p s chars
  | lengthError p chars => exact keepsCalls_lengthError p s chars
  | corridorRxIdle p => exact keepsCalls_corridorRxIdle p s
  | txStart p => exact keepsCalls_txStart p s
  | frameTxEnd p => exact keepsCalls_frameTxEnd p s
  | fillTimerExpiry p => exact keepsCalls_fillTimerExpiry p s
  | holdTimerExpiry p => exact keepsCalls_holdTimerExpiry p s
  | holdRepeatExpiry p => exact keepsCalls_holdRepeatExpiry p s
  | silenceTimerExpiry p => exact keepsCalls_silenceTimerExpiry p s
  | portDisable => exact keepsCalls_portControl s _ 0 _ fun p t => callView_disablePort t p
  | portEnable => exact keepsCalls_portControl s _ 1 _ fun p t => callView_enablePort t p
  | portReset => exact keepsCalls_portControl s _ 2 _ fun p t => callView_resetPort t p
  | drainComplete p => exact keepsCalls_drainComplete p s
  | reportComplete l chars => exact keepsCalls_reportComplete l s chars
  | beaconLineIdle l => exact keepsCalls_beaconLineIdle l s
  | lineDisable => exact keepsCalls_lineControl s _ 0 _ fun l t => callView_disableLine t l
  | lineEnable => exact keepsCalls_lineControl s _ 1 _ fun l t => callView_enableLine t l
  | lineDrainComplete l how => exact keepsCalls_lineDrainComplete l s how
  | reportTake => exact keepsCalls_reportTake s
  | etaExpiry r => exact keepsCalls_etaExpiry r s
  | lifetimeExpiry r => exact keepsCalls_lifetimeExpiry r s
  | holdOffExpiry r => exact keepsCalls_holdOffExpiry r s
  | evaluation => exact keepsCalls_evaluation s
  | lockoutExpiry ap => exact keepsCalls_lockoutExpiry s ap
  | readyLineChange level => exact keepsCalls_readyLineChange s level
  | phases chars => exact keepsCalls_phases chars s
  | accept chars => exact keepsCalls_accept chars s
  | start chars => exact keepsCalls_start chars s
  | deny chars => exact keepsCalls_deny chars s
  | endService chars => exact keepsCalls_end chars s
  | invalidMessage chars => exact keepsCalls_invalidMessage chars s
  | messageCutOff => exact keepsCalls_messageCutOff s
  | messageTxEnd => exact keepsCalls_messageTxEnd s
  | phaseAgeExpiry => exact keepsCalls_phaseAgeExpiry s
  | responseTimeout k => exact keepsCalls_responseTimeout k s
  | startLimitExpiry k => exact keepsCalls_startLimitExpiry k s
  | serviceLimitExpiry k => exact keepsCalls_serviceLimitExpiry k s
  | time => exact keepsCalls_time s
  | corridorTimeWrap => exact keepsCalls_view (s := s) rfl
  | noticeReceive => exact keepsCalls_noticeReceive s
  | unknownKind => exact keepsCalls_unknownKind s
  | unknownRequest => exact keepsCalls_request_view .unknownRequest (fun _ t => (t, .plain .unknownRequest)) (fun _ _ => rfl) s
  | identify => exact keepsCalls_request_view _ _ (fun b t => callView_identifyRequest t b) s
  | readStatus => exact keepsCalls_request_view .readStatus readStatusRequest (fun _ _ => rfl) s
  | readTable => exact keepsCalls_request_view _ _ (fun b t => callView_readTableRequest t b) s
  | writeEntry => exact keepsCalls_request _ _ (fun b _ ht => callsLawful_writeEntryRequest ht b) s
  | verifyTable => exact keepsCalls_request_view _ _ (fun b t => callView_verifyTableRequest t b) s
  | readRecords => exact keepsCalls_request_view _ _ (fun b t => callView_readRecordsRequest t b) s
  | readSlots => exact keepsCalls_request_view .readSlots readSlotsRequest (fun _ _ => rfl) s
  | withdraw => exact keepsCalls_withdraw s
  | readCounters => exact keepsCalls_request_view _ _ (fun b t => callView_readCountersRequest t b) s
  | readAttention => exact keepsCalls_request_view .readAttention readAttentionRequest (fun _ _ => rfl) s
  | commission => exact keepsCalls_request _ _ (fun b _ ht => callsLawful_commissionRequest ht b) s
  | decommission => exact keepsCalls_decommission s
  | frameStart p more => exact keepsCalls_frameStart p s more
  | reportStart l parityBit more => exact keepsCalls_reportStart l s parityBit more
  | messageStart more => exact keepsCalls_messageStart more s

/-! ### One tenth, and one step -/

/-- A tenth moves no call, slot, member or kind of timer. -/
theorem callsLawful_countTenth {s : State} (hs : CallsLawful s) : CallsLawful s.countTenth := by
  obtain ⟨hapart, hslots, hmembers, hrecords⟩ := hs
  have hslot (k : Fin 4) : s.countTenth.slot k = s.slot k := rfl
  have hmode : s.countTenth.mode = s.mode := rfl
  have hconf : s.countTenth.conflicts = s.conflicts := rfl
  have hnext : s.countTenth.nextCall = s.nextCall := rfl
  refine ⟨?_, fun k => ?_, fun k r hr => ?_, fun r x hx => ?_⟩
  · simpa only [CallsApart, State.conflict, hslot, hmode, hconf, hnext] using hapart
  · obtain ⟨hfields, htimer, hnodup⟩ := hslots k
    rw [hslot, slotTimer_countTenth, Option.map_map]
    exact ⟨hfields, htimer, hnodup⟩
  · rw [hslot] at hr ⊢
    obtain ⟨x, hx, hlink⟩ := hmembers k r hr
    exact ⟨x.tick, by rw [record_countTenth, hx]; rfl, hlink⟩
  · rw [record_countTenth] at hx
    obtain ⟨y, hy, rfl⟩ := Option.map_eq_some_iff.mp hx
    simp only [hslot]
    exact hrecords r y hy

theorem callsLawful_idle {s : State} (hs : CallsLawful s) : CallsLawful s.idle := by
  unfold State.idle
  split
  · have htenth := callsLawful_countTenth hs
    unfold State.tick
    generalize s.countTenth = t at htenth ⊢
    split <;> exact callsLawful_of_view (s := t) rfl htenth
  · exact callsLawful_of_view (s := s) rfl hs

/-- Settles O60: each command changes one slot at a time by a rule that keeps calls apart and members in agreement; an idle
step changes none. -/
theorem callsStayLawful : Obligations.CallsStayLawful := by
  intro s t hs h
  unfold step at h
  split at h
  · injection h with h
    rw [← h]
    exact callsLawful_idle hs
  case h_2 c rest _ => exact keepsCalls_exec c { s with pending := rest } t h (callsLawful_of_view (s := s) rfl hs)

end Sys2Proof.LoadedTables
end

section
/-! The level of a bus by its ROUTE entry (R73). -/

namespace Sys2Proof.LoadedTables

open Sys2Proof.Machine Sys2Proof.Safety

/-! ### The entry of a key -/

/-- An in-use entry that holds a key. -/
def holdsKey (e : RouteEntry) (route : Nat) (direction : Bool) : Prop :=
  e.inUse = true ∧ e.route = route ∧ e.direction = direction

section Key

variable (s : State) (route : Nat) (direction : Bool)

theorem routeEntry_of_none (h : ∀ i : Fin 64, ¬ holdsKey s.routes[i] route direction) :
    s.routeEntry route direction = none := by
  rw [State.routeEntry, List.find?_eq_none]
  intro e he hkey
  obtain ⟨i, hi, rfl⟩ := Vector.getElem_of_mem (Vector.mem_toList_iff.mp he)
  refine h ⟨i, hi⟩ ?_
  simp only [Bool.and_eq_true, decide_eq_true_eq, and_assoc] at hkey
  exact hkey

/-- The lowest entry that holds a key is the key's. -/
theorem routeEntry_of_first (i : Fin 64) (hi : holdsKey s.routes[i] route direction)
    (hfirst : ∀ j : Fin 64, j < i → ¬ holdsKey s.routes[j] route direction) :
    s.routeEntry route direction = some s.routes[i] := by
  rw [State.routeEntry, List.find?_eq_some_iff_getElem]
  obtain ⟨huse, hroute, hdir⟩ := hi
  refine ⟨by simp only [huse, hroute, hdir, decide_true, Bool.and_self], i.val, ?_, ?_, fun j hj => ?_⟩
  · rw [Vector.length_toList]
    exact i.isLt
  · rw [Vector.getElem_toList]
    rfl
  · rw [Vector.getElem_toList, Bool.not_eq_true', ← Bool.not_eq_true]
    intro hkey
    refine hfirst ⟨j, hj.trans i.isLt⟩ hj ?_
    simp only [Bool.and_eq_true, decide_eq_true_eq, and_assoc] at hkey
    exact hkey

end Key

/-! ### The level of an entry -/

section Level

variable {s : State} {route : Nat} {direction : Bool} {lateness : Option Int} {e : RouteEntry}
  (he : s.routeEntry route direction = some e)

include he

theorem level_of_refused (h : e.excluded = true ∨ earlyPast e.cutOff lateness = true) :
    s.level route direction lateness = none := by
  simp only [State.level, he, if_pos h]

theorem level_of_taken (h : e.excluded = false) (hcut : earlyPast e.cutOff lateness = false) :
    s.level route direction lateness = some (min 7 (e.baseLevel + thresholdsReached e.late lateness)) := by
  simp only [State.level, he, h, hcut, Bool.false_eq_true, or_self, if_false]

end Level

theorem earlyPast_unknown (cutOff : Option Nat) : earlyPast cutOff none = false := by
  cases cutOff <;> rfl

theorem earlyPast_eq_false {cutOff : Option Nat} {x : Int} (h : ∀ c ∈ cutOff, -(c : Int) < x) :
    earlyPast cutOff (some x) = false := by
  cases cutOff with
  | none => rfl
  | some c => exact decide_eq_false (Int.not_le.mpr (h c rfl))

/-- Settles O26: the key's entry is the lowest that holds it, and refuses a bus or gives it a level. -/
theorem levelOfABus : Obligations.LevelOfABus := by
  intro s route direction lateness
  refine ⟨fun hnone => ?_, fun i huse hroute hdir hfirst => ?_⟩
  case refine_1 => simp only [State.level, routeEntry_of_none s route direction hnone]
  case refine_2 =>
    intro e
    have he : s.routeEntry route direction = some e := routeEntry_of_first s route direction i ⟨huse, hroute, hdir⟩ hfirst
    refine ⟨fun h => level_of_refused he (.inl h), fun c x hcut hlate hearly => ?_, fun h hlate => ?_,
      fun x h hlate hcut => ?_⟩
    · refine level_of_refused he (.inr ?_)
      rw [hcut, hlate]
      exact decide_eq_true hearly
    · rw [hlate, level_of_taken he h (earlyPast_unknown _)]
      rfl
    · rw [hlate, level_of_taken he h (earlyPast_eq_false hcut)]
      rfl

end Sys2Proof.LoadedTables
end

section
/-! The reading requests with their results, and the requests whose arguments are answered BAD_ARG (R62, R63, R79 to R82,
R113, R136, R177, R180 to R184). -/

namespace Sys2Proof.LoadedTables

open Sys2Proof.Machine Sys2Proof.Safety Sys2Proof.Laws Sys2Proof.BeaconLines Sys2Proof.CorridorPorts

/-! ### A request at the head -/

/-- The row of a request code that has one row alone (section 9.3). -/
def codeRow : Nat → Option HandlerRow
  | 0x01 => some .identify
  | 0x02 => some .readStatus
  | 0x03 => some .readTable
  | 0x04 => some .writeEntry
  | 0x05 => some .verifyTable
  | 0x06 => some .readRecords
  | 0x07 => some .readSlots
  | 0x08 => some .withdraw
  | 0x0B => some .readCounters
  | 0x0C => some .readAttention
  | 0x0D => some .commission
  | 0x0E => some .decommission
  | _ => none

theorem requestRow_of_codeRow {body : List Byte} {row : HandlerRow} (h : codeRow (byteAt body 0) = some row) :
    requestRow body = row := by
  unfold codeRow at h
  split at h
  case h_13 => exact nomatch h
  all_goals
    rename_i hcode
    rw [requestRow, hcode]
    exact Option.some.inj h

/-- A REQUEST at the head whose code has a row of its own is answered as carrying it out answers. -/
theorem request_of_code {s t : State} {x : InboundFrame} {rest : List InboundFrame} {code : Nat} {row : HandlerRow}
    {carryOut : List Byte → State → State × Answer} {a : Answer} (h : RequestAtHead s x rest code)
    (hrow : codeRow code = some row) (hcarry : carryOut x.frame.body (afterTake s rest) = (t, a)) :
    request row carryOut s = .next (answered t x a) := by
  obtain ⟨hhead, hkind, hcode⟩ := h
  exact request_answered hhead ((rowOf_request x.frame hkind).trans (requestRow_of_codeRow (hcode ▸ hrow))) hcarry

/-! ### IDENTIFY (R180) -/

/-- A body of two bytes or more names a leaf, and the answer gives it. -/
theorem identifyRequest_of_leaf {b : List Byte} {s : State} (hlen : 2 ≤ b.length) :
    identifyRequest b s = (s, (s.leaf (byteAt b 1)).elim (.plain .badArg) fun contents =>
      .doneWith (byteOf (byteAt b 1) :: contents)) := by
  rw [identifyRequest, if_neg (Nat.not_lt.mpr hlen)]
  cases s.leaf (byteAt b 1) <;> rfl

theorem byteOf_bit (b : Bool) : byteOf (bit b) = if b then 1 else 0 := by
  cases b <;> rfl

theorem leaf_identity (s : State) :
    s.leaf 2 = some ([s.address.setWidth 8, s.rawStraps.setWidth 8, byteOf s.mode.code, if s.timeSet then 1 else 0]
      ++ bytes24 s.corridorTime) := by
  rw [State.leaf, byteOf_bit, byteOf, byteOf, BitVec.ofNat_toNat, BitVec.ofNat_toNat]

theorem leaf_none (s : State) {n : Nat} (h : 3 < n) : s.leaf n = none := by
  unfold State.leaf
  split
  case h_5 => rfl
  all_goals omega

/-! ### Tables named by their codes (R189) -/

@[simp] theorem tableOfCode_code (t : Table) : tableOfCode t.code = some t := by
  cases t <;> rfl

theorem tableOfCode_none {n : Nat} (h : 3 < n) : tableOfCode n = none := by
  unfold tableOfCode
  split
  case h_5 => rfl
  all_goals omega

theorem goodRun_iff (t : Table) (start count : Nat) :
    t.goodRun start count = true ↔ start ≤ t.lastIndex ∧ 1 ≤ count ∧ count ≤ t.maxCount := decide_eq_true_iff

theorem goodRun_eq_false_iff (t : Table) (start count : Nat) :
    t.goodRun start count = false ↔ t.lastIndex < start ∨ count = 0 ∨ t.maxCount < count := by
  rw [Bool.eq_false_iff, ne_eq, goodRun_iff]
  omega

theorem readTableRequest_good {b : List Byte} {s : State} {t : Table} (ht : byteAt b 1 = t.code) (hlen : 4 ≤ b.length)
    (hrun : t.goodRun (byteAt b 2) (byteAt b 3) = true) :
    readTableRequest b s = (s, .doneWith (s.tableResults t (byteAt b 2) (byteAt b 3))) := by
  rw [readTableRequest, ht, tableOfCode_code]
  simp [Nat.not_lt.mpr hlen, hrun]

theorem readTableRequest_bad {b : List Byte} {s : State}
    (h : ∀ t, tableOfCode (byteAt b 1) = some t → b.length < 4 ∨ t.goodRun (byteAt b 2) (byteAt b 3) = false) :
    readTableRequest b s = (s, .plain .badArg) := by
  unfold readTableRequest
  split
  · rfl
  case h_2 t ht => rw [if_pos (h t ht)]

/-! ### READ STATUS, READ RECORDS and READ SLOTS -/

theorem statusBytes_length (s : State) : s.statusBytes.length = 25 := by
  simp [State.statusBytes, State.portBytes, bytes16, lineNumbers, callSlots]

theorem statusBytes_head (s : State) : s.statusBytes.head? = some (byteOf s.mode.code) := rfl

theorem statusBytes_getLast (s : State) : s.statusBytes.getLast? = some (byteOf s.inbound.length) :=
  List.getLast?_concat

theorem readRecordsRequest_good {b : List Byte} {s : State} (hlen : 2 ≤ b.length) (hstart : byteAt b 1 ≤ 23) :
    readRecordsRequest b s = (s, .doneWith
      ([byteOf s.occupied, byteOf (min 3 (s.occupiedFrom (byteAt b 1)).length),
        if 3 < (s.occupiedFrom (byteAt b 1)).length then 1 else 0]
        ++ ((s.occupiedFrom (byteAt b 1)).take 3).flatMap s.recordBytes)) := by
  rw [readRecordsRequest, if_neg (by omega)]
  simp only [byteOf_bit, List.length_take, decide_eq_true_eq]

theorem readRecordsRequest_bad {b : List Byte} {s : State} (h : b.length < 2 ∨ 23 < byteAt b 1) :
    readRecordsRequest b s = (s, .plain .badArg) := if_pos h

/-- Settles O44: each read answers from the state as the take leaves it. -/
theorem readsAnswerAndKeepState : Obligations.ReadsAnswerAndKeepState := by
  intro s x rest u b leaf
  refine ⟨fun h hlen => ?_, fun h => ?_, fun h t hlen ht => ?_, fun h hlen => ?_, fun h => ?_⟩
  · have hexec := request_of_code h rfl (identifyRequest_of_leaf (s := u) hlen)
    have hleaf (n : Nat) (a : Answer) (hn : leaf = n)
        (ha : (u.leaf n).elim (.plain .badArg) (fun contents => .doneWith (byteOf n :: contents)) = a) :
        exec .identify s = .next (answered u x a) := by
      rw [← ha, ← hn]
      exact hexec
    exact ⟨fun hn => hleaf 0 _ hn rfl, fun hn => hleaf 1 _ hn rfl, fun hn => hleaf 2 _ hn (by rw [leaf_identity]; rfl),
      fun hn => hleaf 3 _ hn rfl, fun hn => hleaf leaf _ rfl (by rw [leaf_none u hn]; rfl)⟩
  · exact ⟨request_of_code h rfl rfl, statusBytes_length u, statusBytes_head u, statusBytes_getLast u⟩
  · refine ⟨fun hstart hlow hhigh => ?_, fun hbad => ?_⟩
    · exact request_of_code h rfl
        (readTableRequest_good ht hlen ((goodRun_iff _ _ _).mpr ⟨hstart, hlow, hhigh⟩))
    · refine request_of_code h rfl (readTableRequest_bad fun o ho => .inr ?_)
      rw [ht, tableOfCode_code] at ho
      obtain rfl := Option.some.inj ho
      exact (goodRun_eq_false_iff _ _ _).mpr hbad
  · exact ⟨fun hstart => request_of_code h rfl (readRecordsRequest_good hlen hstart),
      fun hstart => request_of_code h rfl (readRecordsRequest_bad (.inr hstart))⟩
  · exact request_of_code h rfl rfl

/-! ### Missing and out-of-range arguments -/

theorem one_le_contentLength (t : Table) (contents : List Byte) : 1 ≤ t.contentLength contents := by
  cases t with
  | conflicts =>
    change 1 ≤ if 28 < byteAt contents 0 then 1 else 1 + byteAt contents 0
    split <;> omega
  | approach | route | params => exact Nat.le_add_left 1 _

theorem writeEntryRequest_unknown {b : List Byte} {s : State} (h : 3 < byteAt b 1) :
    writeEntryRequest b s = (s, .plain .badArg) := by
  rw [writeEntryRequest, tableOfCode_none h]

theorem writeEntryRequest_bad {b : List Byte} {s : State} {t : Table} (ht : byteAt b 1 = t.code)
    (h : t.lastIndex < byteAt b 2 ∨ 1 < byteAt b 5 ∨ b.length < 6 + t.contentLength (b.drop 6)) :
    writeEntryRequest b s = (s, .plain .badArg) := by
  have hlen := one_le_contentLength t (b.drop 6)
  rw [writeEntryRequest, ht, tableOfCode_code]
  dsimp only
  rw [if_pos]
  rw [List.length_drop]
  omega

/-- VERIFY TABLE with an unknown table, or with an argument of it out of range, is answered BAD_ARG (R79, R81). -/
theorem verifyTableRequest_bad {b : List Byte} {s : State}
    (h : ∀ t, tableOfCode (byteAt b 1) = some t →
      b.length < 5 ∨ t.goodRun (byteAt b 2) (byteAt b 4) = false ∨ 1 < byteAt b 3 ∨
        (b.drop 5).length ≠ byteAt b 4 * t.suppliedLength (b.drop 5)) :
    verifyTableRequest b s = (s, .plain .badArg) := by
  unfold verifyTableRequest
  split
  · rfl
  case h_2 t ht => exact if_pos (h t ht)

theorem portControl_bad {action : Nat} {act : Port → State → State × Status} {b : List Byte} {s : State}
    (h : b.length < 3 ∨ byteAt b 2 ≠ action ∨ 1 < byteAt b 1) : portControl action act b s = (s, .plain .badArg) := by
  unfold portControl
  split
  · rfl
  case isFalse hargs =>
    have hport : portOfCode (byteAt b 1) = none := by
      unfold portOfCode
      split
      case h_3 => rfl
      all_goals omega
    rw [hport]

theorem lineControl_bad {action : Nat} {act : Fin 8 → State → State × Status} {b : List Byte} {s : State}
    (h : b.length < 3 ∨ byteAt b 2 ≠ action ∨ 7 < byteAt b 1) : lineControl action act b s = (s, .plain .badArg) := by
  unfold lineControl
  split
  · rfl
  case isFalse hargs =>
    have hline : lineOfCode (byteAt b 1) = none := dif_neg (by omega)
    rw [hline]

theorem byteAt_of_length {b : List Byte} {i : Nat} (h : b.length ≤ i) : byteAt b i = 0 := by
  rw [byteAt, List.getD_eq_default _ _ h]
  rfl

/-- Settles O52: each argument's test comes before anything is changed. -/
theorem badArgumentsAnswered : Obligations.BadArgumentsAnswered := by
  intro s x rest b bad
  refine ⟨fun h hlen => ?_, fun h hargs => ?_, fun h => ⟨fun hargs => ?_, fun t ht hargs => ?_⟩,
    fun h => ⟨fun hargs => ?_, fun t ht hargs => ?_⟩, fun h hlen => ?_, fun h => ?_, fun h => ?_⟩
  · exact request_of_code h rfl (if_pos hlen)
  · refine request_of_code h rfl (readTableRequest_bad fun t ht => .inl (hargs.resolve_right fun hcode => ?_))
    exact nomatch (tableOfCode_none hcode).symm.trans ht
  · exact request_of_code h rfl (writeEntryRequest_unknown hargs)
  · exact request_of_code h rfl (writeEntryRequest_bad ht hargs)
  · refine request_of_code h rfl (verifyTableRequest_bad fun t ht => ?_)
    rcases hargs with hlen | hcode | hdirection
    · exact .inl hlen
    · exact nomatch (tableOfCode_none hcode).symm.trans ht
    · exact .inr (.inr (.inl hdirection))
  · refine request_of_code h rfl (verifyTableRequest_bad fun o ho => .inr ?_)
    rw [ht, tableOfCode_code] at ho
    obtain rfl := Option.some.inj ho
    rw [goodRun_eq_false_iff, List.length_drop]
    rcases hargs with hstart | hzero | hcount | hlen
    · exact .inl (.inl hstart)
    · exact .inl (.inr (.inl hzero))
    · exact .inl (.inr (.inr hcount))
    · exact .inr (.inr hlen)
  · exact request_of_code h rfl (readRecordsRequest_bad (.inl hlen))
  · have hport (row : HandlerRow) (action : Nat) (act : Port → State → State × Status)
        (hrow : (if byteAt b 2 = 1 then HandlerRow.portEnable else if byteAt b 2 = 2 then .portReset
          else .portDisable) = row) (hbad : b.length < 3 ∨ byteAt b 2 ≠ action ∨ 1 < byteAt b 1) :
        request row (portControl action act) s = bad :=
      request_answered h.1 ((rowOf_portControl h).trans hrow) (portControl_bad hbad)
    refine ⟨fun hargs => ?_, fun hnone hact => ?_, fun hnone hact => ?_, fun hnone hact => ?_⟩
    · have hact : byteAt b 2 = 0 ∨ 2 < byteAt b 2 := hargs.imp_left fun hlen => byteAt_of_length (by omega)
      exact hport .portDisable 0 _ (by rw [if_neg (by omega), if_neg (by omega)]) (by omega)
    · exact hport .portDisable 0 _ (by rw [hact]; rfl) (.inr (.inr hnone))
    · exact hport .portEnable 1 _ (by rw [hact]; rfl) (.inr (.inr hnone))
    · exact hport .portReset 2 _ (by rw [hact]; rfl) (.inr (.inr hnone))
  · have hline (row : HandlerRow) (action : Nat) (act : Fin 8 → State → State × Status)
        (hrow : (if byteAt b 2 = 1 then HandlerRow.lineEnable else .lineDisable) = row)
        (hbad : b.length < 3 ∨ byteAt b 2 ≠ action ∨ 7 < byteAt b 1) :
        request row (lineControl action act) s = bad :=
      request_answered h.1 ((rowOf_lineControl h).trans hrow) (lineControl_bad hbad)
    refine ⟨fun hargs => ?_, fun hnone hact => ?_, fun hnone hact => ?_⟩
    · have hact : byteAt b 2 = 0 ∨ 1 < byteAt b 2 := hargs.imp_left fun hlen => byteAt_of_length (by omega)
      exact hline .lineDisable 0 _ (by rw [if_neg (by omega)]) (by omega)
    · exact hline .lineDisable 0 _ (by rw [hact]; rfl) (.inr (.inr hnone))
    · exact hline .lineEnable 1 _ (by rw [hact]; rfl) (.inr (.inr hnone))

end Sys2Proof.LoadedTables
end

section
/-! VERIFY TABLE: its walk, and when a supplied entry equals the stored one (R79, R80). -/

namespace Sys2Proof.LoadedTables

open Sys2Proof.Machine Sys2Proof.Safety Sys2Proof.Laws Sys2Proof.CorridorPorts

/-! ### The walk -/

theorem verifyTableRequest_good {b : List Byte} {s : State} {t : Table} (ht : byteAt b 1 = t.code) (hlen : 5 ≤ b.length)
    (hrun : t.goodRun (byteAt b 2) (byteAt b 4) = true) (hdown : byteAt b 3 ≤ 1)
    (hsupplied : b.length = 5 + byteAt b 4 * t.suppliedLength (b.drop 5)) :
    verifyTableRequest b s = (s, s.verifyWalk t (decide (byteAt b 3 = 1)) (byteAt b 2) 0
      (entriesOf (byteAt b 4) (t.suppliedLength (b.drop 5)) (b.drop 5))) := by
  rw [verifyTableRequest, ht, tableOfCode_code]
  dsimp only
  rw [if_neg]
  rw [hrun, List.length_drop]
  rintro (h | h | h | h)
  · omega
  · exact nomatch h
  · omega
  · omega

/-- A walk reads the tables alone. -/
theorem verifyWalk_afterTake (s : State) (inbound : List InboundFrame) (t : Table) (down : Bool) (i matched : Nat)
    (entries : List (List Byte)) :
    (afterTake s inbound).verifyWalk t down i matched entries = s.verifyWalk t down i matched entries := by
  induction entries generalizing i matched with
  | nil => rfl
  | cons e rest ih =>
    have hsame : (afterTake s inbound).sameEntry t i e = s.sameEntry t i e := by cases t <;> rfl
    simp only [State.verifyWalk, hsame, ih]

section Walk

variable {s : State} {t : Table} {i : Nat} {e : List Byte} (down : Bool) (matched : Nat) {rest : List (List Byte)}

theorem verifyWalk_differs (h : s.sameEntry t i e = false) :
    s.verifyWalk t down i matched (e :: rest) = { status := .mismatch, results := [byteOf i, byteOf matched] } := if_pos h

theorem verifyWalk_last (h : s.sameEntry t i e = true) :
    s.verifyWalk t down i matched [e] = { status := .isMatch, results := [byteOf (matched + 1)] } := by
  rw [State.verifyWalk, if_neg (by rw [h]; decide), List.isEmpty_nil, if_pos rfl]

theorem verifyWalk_more (h : s.sameEntry t i e = true) (hrest : rest ≠ []) :
    s.verifyWalk t down i matched (e :: rest) =
      (t.nextIndex down i).elim { status := .rangeEnd, results := [byteOf (matched + 1)] }
        fun j => s.verifyWalk t down j (matched + 1) rest := by
  rw [State.verifyWalk, if_neg (by rw [h]; decide), if_neg (by rwa [List.isEmpty_iff])]
  cases t.nextIndex down i <;> rfl

end Walk

theorem nextIndex_atEnd {t : Table} {down : Bool} {i : Nat} (h : if down then i = 0 else t.lastIndex ≤ i) :
    t.nextIndex down i = none := by
  cases down with
  | true => exact if_pos h
  | false => exact if_neg (Nat.not_lt.mpr h)

theorem nextIndex_inside {t : Table} {down : Bool} {i : Nat} (h : ¬ if down then i = 0 else t.lastIndex ≤ i) :
    t.nextIndex down i = some (if down then i - 1 else i + 1) := by
  cases down with
  | true => exact if_neg h
  | false => exact if_pos (Nat.lt_of_not_le h)

theorem entriesOf_getElem? {count j : Nat} (size : Nat) (b : List Byte) (h : j < count) :
    (entriesOf count size b)[j]? = some ((b.drop (j * size)).take size) := by
  rw [entriesOf, List.getElem?_map, List.getElem?_range h]
  rfl

/-! ### When entries match -/

theorem sameEntry_approach (s : State) (ap : Fin 8) (e : List Byte) :
    s.sameEntry .approach ap.val e = true ↔ RawApproach.ofBytes e = (s.approach ap).raw := by
  rw [State.sameEntry, Fin.ofNat_val_eq_self, decide_eq_true_iff]

theorem sameEntry_route (s : State) (i : Fin 64) (e : List Byte) :
    s.sameEntry .route i.val e = true ↔ RawRoute.ofBytes e = s.routes[i].raw := by
  simp only [State.sameEntry, Fin.ofNat_val_eq_self, decide_eq_true_iff]

theorem badPair_eq_false_iff (q : RawPair) : badPair q = false ↔ q.1 ≤ 7 ∧ q.2 ≤ 7 ∧ q.1 ≠ q.2 := by
  rw [badPair, decide_eq_false_iff_not]
  omega

theorem sameEntry_conflicts (s : State) (e : List Byte) :
    s.sameEntry .conflicts 0 e = true ↔
      (∀ q ∈ rawPairs e, q.1 ≤ 7 ∧ q.2 ≤ 7 ∧ q.1 ≠ q.2) ∧ conflictSet (rawPairs e) = s.conflicts := by
  simp only [State.sameEntry, Bool.and_eq_true, List.all_eq_true, Bool.not_eq_true', badPair_eq_false_iff,
    decide_eq_true_eq]

theorem sameEntry_params (s : State) (e : List Byte) :
    s.sameEntry .params 0 e = true ↔ RawParams.ofBytes e = s.params.raw := decide_eq_true_iff

/-- A list is the image of a vector when each of its places is. -/
theorem eq_map_toList_iff {α β : Type} {n : Nat} {l : List β} (hlen : l.length = n) (v : Vector α n) (f : α → β) :
    l = v.toList.map f ↔ ∀ i : Fin n, l[i.val]? = some (f v[i]) := by
  constructor
  · rintro rfl i
    simp
  · intro h
    refine List.ext_getElem (by simp [hlen]) fun i hi _ => ?_
    have hi' := h ⟨i, hlen ▸ hi⟩
    rw [List.getElem?_eq_getElem hi] at hi'
    simpa using hi'

theorem lines_eq_raw_iff (e : List Byte) (y : Params) :
    (RawParams.ofBytes e).lines = y.raw.lines ↔
      ∀ l : Fin 8, (RawParams.ofBytes e).lines[l.val]? = some (y.lines[l].parity.code, bit y.lines[l].suspectAccept) := by
  refine eq_map_toList_iff ?_ y.lines fun l => (l.parity.code, bit l.suspectAccept)
  rw [RawParams.ofBytes, List.length_map, List.length_range]

/-! An entry's numbers are equal when each of them is, in the order of the fields (R66, R70, R76). -/

theorem rawApproach_eq_iff (x y : RawApproach) :
    x = y ↔ x.inUse = y.inUse ∧ x.phaseGroup = y.phaseGroup ∧ x.checkIn = y.checkIn ∧ x.checkOut = y.checkOut ∧
      x.kinds = y.kinds ∧ x.travel = y.travel ∧ x.dwell = y.dwell ∧ x.extension = y.extension ∧
      x.earlyDuration = y.earlyDuration ∧ x.jumpDuration = y.jumpDuration ∧ x.lockout = y.lockout ∧ x.rank = y.rank ∧
      x.downDirection = y.downDirection ∧ x.downAddress = y.downAddress ∧ x.downTravel = y.downTravel := by
  cases x
  cases y
  simp only [RawApproach.mk.injEq]
  tauto

theorem rawRoute_eq_iff (x y : RawRoute) :
    x = y ↔ x.inUse = y.inUse ∧ x.route = y.route ∧ x.direction = y.direction ∧ x.baseLevel = y.baseLevel ∧
      x.places = y.places ∧ x.cutOff = y.cutOff ∧ x.excluded = y.excluded := by
  cases x
  cases y
  simp only [RawRoute.mk.injEq]
  tauto

theorem rawParams_eq_iff (x y : RawParams) :
    x = y ↔ x.window = y.window ∧ x.responseTimeout = y.responseTimeout ∧ x.startLimit = y.startLimit ∧
      x.margin = y.margin ∧ x.denyHoldOff = y.denyHoldOff ∧ x.checkInGrace = y.checkInGrace ∧
      x.noticeGrace = y.noticeGrace ∧ x.unlisted = y.unlisted ∧ x.floor = y.floor ∧ x.split = y.split ∧
      (x.onA = y.onA ∧ x.onThresholdA = y.onThresholdA ∧ x.offThresholdA = y.offThresholdA) ∧
      (x.onB = y.onB ∧ x.onThresholdB = y.onThresholdB ∧ x.offThresholdB = y.offThresholdB) ∧
      x.holdLimit = y.holdLimit ∧ x.silenceLimit = y.silenceLimit ∧ x.alertMask = y.alertMask ∧
      x.alertPort = y.alertPort ∧ x.mapCount = y.mapCount ∧ x.noticeMap = y.noticeMap ∧ x.lines = y.lines := by
  cases x
  cases y
  simp only [RawParams.mk.injEq, and_assoc]

/-- Settles O46: the walk compares entry by entry, and entries match when their numbers do. -/
theorem verifyTableWalks : Obligations.VerifyTableWalks := by
  refine ⟨fun s x rest t h => ?_, fun s t down i matched e rest => ?_,
    fun t b count size j => ⟨by cases t <;> rfl, entriesOf_getElem? size b⟩, fun s e => ⟨fun ap => ?_, fun i => ?_, ?_, ?_⟩⟩
  · intro b hlen ht hstart hdown hlow hhigh hsupplied
    rw [← verifyWalk_afterTake s rest]
    exact request_of_code h rfl
      (verifyTableRequest_good ht hlen ((goodRun_iff _ _ _).mpr ⟨hstart, hlow, hhigh⟩) hdown hsupplied)
  · intro walk next atEnd
    refine ⟨verifyWalk_differs down matched, fun hsame hnil => ?_, fun hsame hmore hend => ?_, fun hsame hmore hin => ?_⟩
    · subst hnil
      exact verifyWalk_last down matched hsame
    · exact (verifyWalk_more down matched hsame hmore).trans (by rw [nextIndex_atEnd hend]; rfl)
    · exact (verifyWalk_more down matched hsame hmore).trans (by rw [nextIndex_inside hin]; rfl)
  · exact (sameEntry_approach s ap e).trans (rawApproach_eq_iff _ _)
  · exact (sameEntry_route s i e).trans (rawRoute_eq_iff _ _)
  · exact sameEntry_conflicts s e
  · refine (sameEntry_params s e).trans ((rawParams_eq_iff _ _).trans ?_)
    rw [lines_eq_raw_iff]
    exact Iff.rfl

end Sys2Proof.LoadedTables
end

section
/-! Retiring a busy approach (R68, R111, R135): its records, its RETIRED counter and its open slot. -/

namespace Sys2Proof.LoadedTables

open Sys2Proof.Machine Sys2Proof.Safety Sys2Proof.Laws Sys2Proof.CorridorPorts

/-! ### What a retirement writes -/

/-- Records retired write the records and what counting writes. -/
theorem retireRecords_frame (s : State) (ap : Fin 8) :
    s.retireRecords ap =
      { s with records := (s.retireRecords ap).records,
               counters := (s.retireRecords ap).counters,
               rollover := (s.retireRecords ap).rollover,
               conditions := (s.retireRecords ap).conditions,
               alertDue := (s.retireRecords ap).alertDue } := by
  rw [retireRecords_eq]
  generalize recordSlots = rs
  induction rs generalizing s with
  | nil => rfl
  | cons r rest ih =>
    rw [forEach_cons, retireOne]
    split
    case isFalse => exact ih s
    case isTrue =>
      have hout := takeOut_frame s r .retired
      have hrest := ih (s.takeOut r .retired)
      generalize s.takeOut r .retired = t at hout hrest ⊢
      generalize forEach rest (retireOne ap) t = w at hrest ⊢
      rw [hrest, hout]

section RetireRecords

variable (s : State) (ap : Fin 8)

theorem retireRecords_output : (s.retireRecords ap).output = s.output := by rw [retireRecords_frame]

theorem retireRecords_approach (o : Fin 8) : (s.retireRecords ap).approach o = s.approach o := by
  have h : (s.retireRecords ap).approaches = s.approaches := by rw [retireRecords_frame]
  exact congrArg (fun v => v[o]) h

theorem retireRecords_params : (s.retireRecords ap).params = s.params := by rw [retireRecords_frame]

theorem retireRecords_slots : (s.retireRecords ap).slots = s.slots := by rw [retireRecords_frame]

theorem retireRecords_slotTimers : (s.retireRecords ap).slotTimers = s.slotTimers := by rw [retireRecords_frame]

end RetireRecords

section Retire

variable (s : State) (ap : Fin 8)

theorem retire_of_none (h : s.openSlotOf ap = none) : s.retire ap = s.retireRecords ap := by
  unfold State.retire
  dsimp only
  rw [openSlotOf_of_view (slotView_retireRecords s ap), h]

theorem retire_of_some {k : Fin 4} (h : s.openSlotOf ap = some k) :
    s.retire ap = (s.retireRecords ap).closeSlot k .retire := by
  unfold State.retire
  dsimp only
  rw [openSlotOf_of_view (slotView_retireRecords s ap), h]

/-- A retirement writes what retiring its records and closing its slot write. -/
theorem retire_frame :
    s.retire ap =
      { s with records := (s.retire ap).records,
               counters := (s.retire ap).counters,
               rollover := (s.retire ap).rollover,
               conditions := (s.retire ap).conditions,
               alertDue := (s.retire ap).alertDue,
               slots := (s.retire ap).slots,
               output := (s.retire ap).output,
               slotTimers := (s.retire ap).slotTimers,
               evalDue := (s.retire ap).evalDue } := by
  have hrecords := retireRecords_frame s ap
  cases h : s.openSlotOf ap with
  | none =>
    rw [retire_of_none s ap h]
    generalize s.retireRecords ap = t at hrecords ⊢
    rw [hrecords]
  | some k =>
    rw [retire_of_some s ap h]
    have hclose := closeSlot_frame (s.retireRecords ap) k .retire
    generalize s.retireRecords ap = t at hrecords hclose ⊢
    generalize t.closeSlot k .retire = w at hclose ⊢
    rw [hclose, hrecords]

theorem record_retire (q : Fin 24) :
    (s.retire ap).record q = if onApproach ap (s.record q) then none else s.record q := by
  rw [← record_retireRecords]
  cases h : s.openSlotOf ap with
  | none => rw [retire_of_none s ap h]
  | some k => rw [retire_of_some s ap h, record_closeSlot]

end Retire

/-! ### The RETIRED counter -/

/-- Counting adds one modulo 2^32, wrapping or not. -/
theorem get_count_same (s : State) (ref : CounterRef) : (s.count ref).counters.get ref = s.counters.get ref + 1 := by
  unfold State.count
  dsimp only
  split_ifs
  · exact get_put_same _ _ _
  · rw [raise_counters]
    exact get_put_same _ _ _
  · exact get_put_same _ _ _

theorem retired_takeOut {s : State} {ap : Fin 8} {r : Fin 24} (h : onApproach ap (s.record r) = true) :
    (s.takeOut r .retired).counters.get (.approach ap .retired) = s.counters.get (.approach ap .retired) + 1 := by
  cases hx : s.record r with
  | none =>
    rw [hx] at h
    exact nomatch h
  | some x =>
    rw [hx, onApproach_some] at h
    subst h
    simp only [State.takeOut, hx]
    exact get_count_same (s.setRecord r none) _

/-- Each record on the approach is counted once. -/
theorem retired_retireEach (ap : Fin 8) {rs : List (Fin 24)} (hrs : rs.Nodup) (s : State) :
    (forEach rs (retireOne ap) s).counters.get (.approach ap .retired) =
      s.counters.get (.approach ap .retired) + BitVec.ofNat 32 (rs.countP (fun r => onApproach ap (s.record r))) := by
  induction rs generalizing s with
  | nil => exact (BitVec.add_zero _).symm
  | cons r rest ih =>
    obtain ⟨hr, hrest⟩ := List.nodup_cons.mp hrs
    have hkept : rest.countP (fun q => onApproach ap ((retireOne ap r s).record q)) =
        rest.countP (fun q => onApproach ap (s.record q)) := by
      refine List.countP_congr fun q hq => ?_
      have hne : q ≠ r := fun heq => hr (heq ▸ hq)
      rw [record_retireOne, if_neg fun hand => hne hand.1]
    rw [forEach_cons, ih hrest, hkept, List.countP_cons, retireOne]
    by_cases hon : onApproach ap (s.record r) = true
    · rw [if_pos hon, if_pos hon, retired_takeOut hon, BitVec.add_assoc, Nat.add_comm, BitVec.ofNat_add]
      rfl
    · rw [if_neg hon, if_neg hon, Nat.add_zero]

theorem retired_retire (s : State) (ap : Fin 8) :
    (s.retire ap).counters.get (.approach ap .retired) = s.counters.get (.approach ap .retired)
      + BitVec.ofNat 32 ((List.finRange 24).countP (fun r => onApproach ap (s.record r))) := by
  rw [← retired_retireEach ap (List.nodup_finRange 24), ← recordSlots, ← retireRecords_eq]
  cases h : s.openSlotOf ap with
  | none => rw [retire_of_none s ap h]
  | some k => rw [retire_of_some s ap h, closeSlot_frame]

/-! ### The open slot -/

theorem openSlotOf_eq_none {s : State} {ap : Fin 8}
    (h : ∀ k : Fin 4, (s.slot k).state.isOpen = true → (s.slot k).approach ≠ some ap) : s.openSlotOf ap = none := by
  rw [State.openSlotOf, List.find?_eq_none]
  intro k _ hk
  rw [Bool.and_eq_true, decide_eq_true_eq] at hk
  exact h k hk.1 hk.2

theorem openSlotOf_of_first {s : State} {ap : Fin 8} {k : Fin 4} (hopen : (s.slot k).state.isOpen = true)
    (hap : (s.slot k).approach = some ap)
    (hfirst : ∀ j : Fin 4, j < k → (s.slot j).state.isOpen = true → (s.slot j).approach ≠ some ap) :
    s.openSlotOf ap = some k := by
  rw [State.openSlotOf, callSlots, ← Fin.find?_eq_find?_finRange, Fin.find?_eq_some_iff]
  refine ⟨by rw [hopen, hap, decide_eq_true rfl]; rfl, fun j hj => ?_⟩
  rw [Bool.and_eq_false_imp]
  intro hjopen
  exact decide_eq_false (hfirst j hj hjopen)

/-- An approach is busy in ACTIVE when a record is on it or a slot that is not IDLE holds it (R68). -/
theorem busy_iff (s : State) (ap : Fin 8) :
    s.busy ap = true ↔ s.mode = .active ∧ ((∃ r : Fin 24, ∃ x ∈ s.record r, x.approach = ap) ∨
      ∃ k : Fin 4, (s.slot k).state ≠ .idle ∧ (s.slot k).approach = some ap) := by
  simp [State.busy, State.approachHeld, State.holds, recordSlots, callSlots, Option.any_eq_true]

/-- An APPROACH write whose contents pass: refused when busy and not forced, else written, retiring first when busy. -/
theorem writeApproach_passed {s : State} {ap : Fin 8} {contents : List Byte} (force : Bool)
    (h : firstFailure (s.approachChecks ap (.ofBytes contents)) = none) :
    s.writeApproach ap force contents =
      if s.busy ap ∧ force = false then (s, .plain .inUse)
      else (((if s.busy ap then s.retire ap else s).storeApproach ap (RawApproach.ofBytes contents).entry).markDue,
        .written (s.approachGens[ap] + 1)) := by
  simp only [State.writeApproach, h]

/-- Settles O51: the records, the counter and the slot of the approach, each by what a retirement does to it. -/
theorem retirementClearsApproach : Obligations.RetirementClearsApproach := by
  intro s ap u
  refine ⟨fun force contents => ?_, busy_iff s ap, fun r x hx => ?_, fun r hr => ?_, retired_retire s ap, fun hnone => ?_,
    fun k hopen hap hfirst => ?_⟩
  · intro x hpass w
    refine ⟨fun hbusy hforce => ?_, fun hbusy hforce => ?_, fun hbusy => ?_⟩
    · exact (writeApproach_passed force hpass).trans (if_pos ⟨hbusy, hforce⟩)
    · rw [writeApproach_passed force hpass, if_neg (by simp [hforce]), if_pos hbusy]
      rfl
    · rw [writeApproach_passed force hpass, hbusy]
      rfl
  · rw [record_retire, Option.mem_def.mp hx]
    simp only [onApproach_some]
  · rw [record_retire, hr]
    rfl
  · have hkept : u = s.retireRecords ap := retire_of_none s ap (openSlotOf_eq_none hnone)
    rw [hkept]
    exact ⟨retireRecords_slots s ap, retireRecords_output s ap, retireRecords_slotTimers s ap⟩
  · intro y closing giveUp response
    have hclosed : u = (s.retireRecords ap).closeSlot k .retire :=
      retire_of_some s ap (openSlotOf_of_first hopen hap hfirst)
    have hslot : (s.retireRecords ap).slot k = s.slot k := slot_of_view (slotView_retireRecords s ap) k
    rw [hclosed, closeSlot_slots, closeSlot_output, closeSlot_slotTimers, hslot, hap, retireRecords_slots,
      retireRecords_output, retireRecords_slotTimers, retireRecords_params]
    refine ⟨rfl, ?_, rfl⟩
    simp only [Option.map_some, Option.getD_some, retireRecords_approach, giveUp, y]

end Sys2Proof.LoadedTables
end

section
/-! WRITE ENTRY: its tests in order, and what a write that answers DONE leaves (R60, R63, R65). -/

namespace Sys2Proof.LoadedTables

open Sys2Proof.Machine Sys2Proof.Safety Sys2Proof.Laws Sys2Proof.CorridorPorts

/-! ### The tests before the contents -/

section Request

variable {b : List Byte} {s : State} {t : Table} (ht : byteAt b 1 = t.code) (hi : byteAt b 2 ≤ t.lastIndex)
  (hlen : 6 + t.contentLength (b.drop 6) ≤ b.length) (hforce : byteAt b 5 ≤ 1)

include ht hi hlen hforce

/-- Arguments in range leave the mode of CONFLICTS, the generation and the contents to test (R63). -/
theorem writeEntryRequest_good :
    writeEntryRequest b s =
      if t = .conflicts ∧ s.mode ≠ .standby then (s, .plain .badState)
      else if (s.entryGen t (byteAt b 2)).toNat ≠ word16At b 3 then
        (s, { status := .stale, results := s.tableResults t (byteAt b 2) 1 })
      else s.writeContents t (byteAt b 2) (decide (byteAt b 5 = 1)) ((b.drop 6).take (t.contentLength (b.drop 6))) := by
  have hone := one_le_contentLength t (b.drop 6)
  rw [writeEntryRequest, ht, tableOfCode_code]
  dsimp only
  rw [if_neg]
  rw [List.length_drop]
  omega

theorem writeEntryRequest_badState (h : t = .conflicts) (hmode : s.mode ≠ .standby) :
    writeEntryRequest b s = (s, .plain .badState) :=
  (writeEntryRequest_good ht hi hlen hforce).trans (if_pos ⟨h, hmode⟩)

variable (hmode : t = .conflicts → s.mode = .standby)

include hmode

theorem writeEntryRequest_stale (h : (s.entryGen t (byteAt b 2)).toNat ≠ word16At b 3) :
    writeEntryRequest b s = (s, { status := .stale, results := s.tableResults t (byteAt b 2) 1 }) := by
  rw [writeEntryRequest_good ht hi hlen hforce, if_neg fun hbad => hbad.2 (hmode hbad.1), if_pos h]

theorem writeEntryRequest_current (h : (s.entryGen t (byteAt b 2)).toNat = word16At b 3) :
    writeEntryRequest b s =
      s.writeContents t (byteAt b 2) (decide (byteAt b 5 = 1)) ((b.drop 6).take (t.contentLength (b.drop 6))) := by
  rw [writeEntryRequest_good ht hi hlen hforce, if_neg fun hbad => hbad.2 (hmode hbad.1), if_neg (not_not.mpr h)]

end Request

/-! ### Refused or stored -/

/-- The state that a write past its tests leaves. -/
def stored (s : State) (t : Table) (i : Nat) (contents : List Byte) : State :=
  match t with
  | .approach =>
    let ap := Fin.ofNat 8 i
    ((if s.busy ap then s.retire ap else s).storeApproach ap (RawApproach.ofBytes contents).entry).markDue
  | .route => s.storeRoute (Fin.ofNat 64 i) (RawRoute.ofBytes contents).entry
  | .conflicts => s.storeConflicts (conflictSet (rawPairs contents))
  | .params =>
    (((s.storeParams (RawParams.ofBytes contents).entry).flowAfter s.params .a).flowAfter s.params .b).markDue

theorem inconsistent_not_done (f : Failure) : (Answer.inconsistent f).status ≠ .done := nofun

theorem partitionTests_status {s : State} {x : RawParams} {a : Answer} (h : s.partitionTests x = some a) :
    a.status ≠ .done := by
  unfold State.partitionTests at h
  split at h
  · obtain rfl := Option.some.inj h
    exact nofun
  · obtain ⟨f, _, rfl⟩ := Option.map_eq_some_iff.mp h
    exact nofun

theorem writeRoute_passed {s : State} {i : Fin 64} {contents : List Byte}
    (hpass : firstFailure (RawRoute.ofBytes contents).fieldChecks = none)
    (hkey : s.duplicateRoute i (RawRoute.ofBytes contents).entry = none) :
    s.writeRoute i contents = (s.storeRoute i (RawRoute.ofBytes contents).entry, .written (s.routeGens[i] + 1)) := by
  simp only [State.writeRoute, hpass, hkey]

/-- Past its arguments, its mode and its generation a write is refused, changing nothing, or stored and answered DONE
with the new generation. -/
theorem writeContents_answers (s : State) (t : Table) (i : Nat) (force : Bool) (contents : List Byte) :
    (∃ a : Answer, a.status ≠ .done ∧ s.writeContents t i force contents = (s, a)) ∨
      s.writeContents t i force contents = (stored s t i contents, .written (s.entryGen t i + 1)) := by
  cases t with
  | approach =>
    unfold State.writeContents State.writeApproach
    dsimp only
    split
    · exact .inl ⟨_, inconsistent_not_done _, rfl⟩
    · split
      · exact .inl ⟨_, by decide, rfl⟩
      · exact .inr rfl
  | route =>
    unfold State.writeContents State.writeRoute
    dsimp only
    split
    · exact .inl ⟨_, inconsistent_not_done _, rfl⟩
    · split
      · exact .inl ⟨_, ne_of_beq_false rfl, rfl⟩
      · exact .inr rfl
  | conflicts =>
    unfold State.writeContents State.writeConflicts
    dsimp only
    split
    · exact .inl ⟨_, inconsistent_not_done _, rfl⟩
    · exact .inr rfl
  | params =>
    unfold State.writeContents State.writeParams
    dsimp only
    split
    · exact .inl ⟨_, inconsistent_not_done _, rfl⟩
    · split
      case h_1 a ha => exact .inl ⟨a, partitionTests_status ha, rfl⟩
      case h_2 => exact .inr rfl

/-! ### What is stored -/

/-- The loaded tables and their generations. -/
structure TableView where
  approaches : Vector ApproachEntry 8
  approachGens : Vector Word16 8
  routes : Vector RouteEntry 64
  routeGens : Vector Word16 64
  conflicts : List (Fin 8 × Fin 8)
  params : Params
  tableGens : TableGens

/-- What WRITE ENTRY writes of a state's tables. -/
def tableView (s : State) : TableView :=
  ⟨s.approaches, s.approachGens, s.routes, s.routeGens, s.conflicts, s.params, s.tableGens⟩

/-- The entry of a write and its generations alone. -/
def entryStored (s : State) (t : Table) (i : Nat) (contents : List Byte) : State :=
  match t with
  | .approach => s.storeApproach (Fin.ofNat 8 i) (RawApproach.ofBytes contents).entry
  | .route => s.storeRoute (Fin.ofNat 64 i) (RawRoute.ofBytes contents).entry
  | .conflicts => s.storeConflicts (conflictSet (rawPairs contents))
  | .params => s.storeParams (RawParams.ofBytes contents).entry

section View

variable {s u : State} (h : tableView u = tableView s)

include h

theorem tableGen_of_view (t : Table) : u.tableGen t = s.tableGen t := by
  have hgens : u.tableGens = s.tableGens := congrArg TableView.tableGens h
  cases t <;> simp only [State.tableGen, hgens]

theorem entryGen_of_view (t : Table) (i : Nat) : u.entryGen t i = s.entryGen t i := by
  have hgens : u.tableGens = s.tableGens := congrArg TableView.tableGens h
  have happroach : u.approachGens = s.approachGens := congrArg TableView.approachGens h
  have hroute : u.routeGens = s.routeGens := congrArg TableView.routeGens h
  cases t <;> simp only [State.entryGen, hgens, happroach, hroute]

end View

theorem tableView_retire (s : State) (ap : Fin 8) : tableView (s.retire ap) = tableView s := by
  have h := retire_frame s ap
  generalize s.retire ap = t at h ⊢
  rw [h]
  rfl

theorem tableView_storeApproach_of_view {s u : State} (h : tableView u = tableView s) (ap : Fin 8) (e : ApproachEntry) :
    tableView (u.storeApproach ap e) = tableView (s.storeApproach ap e) :=
  congrArg (fun v : TableView =>
    { v with
      approaches := v.approaches.set ap e
      approachGens := v.approachGens.set ap (v.approachGens[ap] + 1)
      tableGens := { v.tableGens with approach := v.tableGens.approach + 1 } }) h

theorem tableView_markDue (s : State) : tableView s.markDue = tableView s := by
  rw [markDue_frame]
  rfl

/-- Retirement, flow control and the evaluation-due mark leave the tables alone. -/
theorem tableView_stored (s : State) (t : Table) (i : Nat) (contents : List Byte) :
    tableView (stored s t i contents) = tableView (entryStored s t i contents) := by
  cases t with
  | approach =>
    refine (tableView_markDue _).trans (tableView_storeApproach_of_view ?_ _ _)
    split
    · exact tableView_retire s _
    · rfl
  | route | conflicts => rfl
  | params =>
    unfold stored
    dsimp only
    rw [markDue_frame, flowAfter_frame, flowAfter_frame]
    rfl

section Stored

variable (s : State) (t : Table) (i : Nat) (contents : List Byte)

theorem tableGen_entryStored : (entryStored s t i contents).tableGen t = s.tableGen t + 1 := by
  cases t <;> rfl

theorem entryGen_entryStored : (entryStored s t i contents).entryGen t i = s.entryGen t i + 1 := by
  cases t with
  | approach => exact Vector.getElem_set_self _
  | route => exact Vector.getElem_set_self _
  | conflicts | params => rfl

theorem gens_entryStored_other {o : Table} (h : o ≠ t) :
    (entryStored s t i contents).tableGen o = s.tableGen o ∧
      ∀ j, (entryStored s t i contents).entryGen o j = s.entryGen o j := by
  cases t <;> cases o
  case approach.approach | route.route | conflicts.conflicts | params.params => exact absurd rfl h
  all_goals exact ⟨rfl, fun _ => rfl⟩

theorem entryGen_entryStored_ne {j : Nat} (hi : i ≤ t.lastIndex) (hj : j ≤ t.lastIndex) (hne : j ≠ i) :
    (entryStored s t i contents).entryGen t j = s.entryGen t j := by
  cases t with
  | approach =>
    change i ≤ 7 at hi
    change j ≤ 7 at hj
    refine Vector.getElem_set_ne (Fin.isLt _) (Fin.isLt _) fun heq => ?_
    change i % 8 = j % 8 at heq
    omega
  | route =>
    change i ≤ 63 at hi
    change j ≤ 63 at hj
    refine Vector.getElem_set_ne (Fin.isLt _) (Fin.isLt _) fun heq => ?_
    change i % 64 = j % 64 at heq
    omega
  | conflicts | params => exact absurd ((Nat.le_zero.mp hj).trans (Nat.le_zero.mp hi).symm) hne

/-- The entries of the other tables stay. -/
theorem entries_entryStored_other :
    (t ≠ .approach → (entryStored s t i contents).approaches = s.approaches) ∧
      (t ≠ .route → (entryStored s t i contents).routes = s.routes) ∧
      (t ≠ .conflicts → (entryStored s t i contents).conflicts = s.conflicts) ∧
      (t ≠ .params → (entryStored s t i contents).params = s.params) := by
  cases t with
  | approach => exact ⟨absurd rfl, fun _ => rfl, fun _ => rfl, fun _ => rfl⟩
  | route => exact ⟨fun _ => rfl, absurd rfl, fun _ => rfl, fun _ => rfl⟩
  | conflicts => exact ⟨fun _ => rfl, fun _ => rfl, absurd rfl, fun _ => rfl⟩
  | params => exact ⟨fun _ => rfl, fun _ => rfl, fun _ => rfl, absurd rfl⟩

end Stored

/-- A write of another table than APPROACH touches no record and no slot. -/
theorem stored_calls {s : State} {t : Table} (i : Nat) (contents : List Byte) (h : t ≠ .approach) :
    (stored s t i contents).records = s.records ∧ (stored s t i contents).slots = s.slots := by
  cases t with
  | approach => exact absurd rfl h
  | route | conflicts => exact ⟨rfl, rfl⟩
  | params =>
    unfold stored
    dsimp only
    rw [markDue_frame, flowAfter_frame, flowAfter_frame]
    exact ⟨rfl, rfl⟩

/-- Settles O47: the tests in order, then a write that is refused or stored. -/
theorem writeEntryTestsAndWrites : Obligations.WriteEntryTestsAndWrites := by
  refine ⟨fun s x rest t h => ?_, fun s u t i force contents a hi hw ha => ?_⟩
  · intro b u i len ht hi hlen hforce
    refine ⟨fun hc hm => ?_, fun hm hgen => ?_, fun hm hgen => ?_⟩
    · have hmode : u.mode ≠ .standby := fun hstandby => nomatch hm.symm.trans hstandby
      exact request_of_code h rfl (writeEntryRequest_badState ht hi hlen hforce hc hmode)
    · exact request_of_code h rfl (writeEntryRequest_stale (s := u) ht hi hlen hforce hm hgen)
    · intro w
      have hanswers := writeContents_answers u t i (decide (byteAt b 5 = 1)) ((b.drop 6).take len)
      refine ⟨request_of_code h rfl (writeEntryRequest_current (s := u) ht hi hlen hforce hm hgen), fun hdone => ?_, ?_⟩
      · obtain ⟨a, _, hrefused⟩ | hstored := hanswers
        · exact congrArg Prod.fst hrefused
        · exact absurd (congrArg (fun w => w.2.status) hstored) hdone
      · intro e hroute hpass hkey
        subst hroute
        exact writeRoute_passed hpass hkey
  · obtain ⟨o, ho, hrefused⟩ | hstored := writeContents_answers s t i force contents
    · obtain ⟨rfl, rfl⟩ := Prod.mk.inj (hrefused.symm.trans hw)
      exact absurd ha ho
    · obtain ⟨rfl, rfl⟩ := Prod.mk.inj (hstored.symm.trans hw)
      have hview := tableView_stored s t i contents
      refine ⟨rfl, ?_, ?_, fun o ho => ?_, fun j hj hne => ?_, ?_⟩
      · rw [tableGen_of_view hview, tableGen_entryStored]
      · rw [entryGen_of_view hview, entryGen_entryStored]
      · obtain ⟨htable, hentry⟩ := gens_entryStored_other s t i contents ho
        exact ⟨(tableGen_of_view hview o).trans htable, fun j => (entryGen_of_view hview o j).trans (hentry j)⟩
      · rw [entryGen_of_view hview, entryGen_entryStored_ne s t i contents hi hj hne]
      · obtain ⟨happroaches, _, hroutes, _, hconflicts, hparams, _⟩ := TableView.mk.inj hview
        rw [happroaches, hroutes, hconflicts, hparams]
        obtain ⟨hap, hroute, hpairs, hparam⟩ := entries_entryStored_other s t i contents
        exact ⟨by rintro rfl; rfl, by rintro rfl; rfl, by rintro rfl; rfl, by rintro rfl; rfl,
          fun h => ⟨hap h, stored_calls i contents h⟩, hroute, hpairs, hparam⟩

end Sys2Proof.LoadedTables
end

section
/-! The contents tests of APPROACH, ROUTE and CONFLICTS writes, in order (R63, R66, R67, R70, R71, R74, R75). -/

namespace Sys2Proof.LoadedTables

open Sys2Proof.Machine Sys2Proof.Safety Sys2Proof.Laws Sys2Proof.CorridorPorts

/-! ### Checks and tests that fail alike -/

section FailAlike

variable {checks : List Check} {tests : List Test}
  (h : (checks.map testOf).find? (fun y => y.1) = tests.find? (fun y => y.1))

include h

theorem firstFailure_of_firstFails_alike {code index : Nat} (hfail : FirstFails tests code index) :
    ∃ f, firstFailure checks = some f ∧ Answer.inconsistent f = refusedBy code index :=
  firstFailure_of_firstFails (h.trans hfail)

theorem firstFailure_of_allPass_alike (hpass : AllPass tests) : firstFailure checks = none := by
  refine firstFailure_of_allPass ?_
  have hnone : tests.find? (fun y => y.1) = none := List.find?_eq_none.mpr fun y hy => by rw [hpass y hy]; decide
  intro y hy
  exact Bool.eq_false_iff.mpr (List.find?_eq_none.mp (h.trans hnone) y hy)

end FailAlike

/-- Tests run on the entries that take part fail as tests on all entries that ask first whether the entry does. -/
theorem find?_map_filter {α : Type} {p : α → Bool} {f g : α → Test} (l : List α)
    (h : ∀ o, g o = (p o && (f o).1, (f o).2)) :
    ((l.filter p).map f).find? (fun y => y.1) = (l.map g).find? (fun y => y.1) := by
  induction l with
  | nil => rfl
  | cons o rest ih =>
    rw [List.map_cons, List.find?_cons, h o]
    by_cases hp : p o = true
    · rw [List.filter_cons_of_pos hp, List.map_cons, List.find?_cons, ih, hp]
      rfl
    · rw [List.filter_cons_of_neg hp, ih, Bool.eq_false_iff.mpr hp]
      rfl

/-! ### APPROACH (R66, R67) -/

/-- A line has a code when it is the line of that code. -/
theorem map_val_eq_some_iff (line : Option (Fin 8)) (n : Nat) :
    line.map Fin.val = some n ↔ (lineOfCode n).isSome = true ∧ line = lineOfCode n := by
  by_cases hn : n < 8
  · rw [lineOfCode, dif_pos hn]
    cases line <;> simp [Fin.ext_iff]
  · rw [lineOfCode, dif_neg hn]
    cases line with
    | none => simp
    | some l => simp; omega

/-- The field tests of R66, by the field checks. -/
def fieldTests (x : RawApproach) : List Test := x.fieldChecks.map testOf

/-- The tests of R67 of one role of lines. -/
def roleTests (s : State) (ap : Fin 8) (inUse : Nat) (role : ApproachEntry → Option (Fin 8)) (code : Nat) : List Test :=
  (List.finRange 8).map (fun o =>
    (decide ((inUse = 1 ∧ o ≠ ap ∧ (s.approach o).inUse = true) ∧ (role (s.approach o)).map Fin.val = some code), 0x04,
      o.val))

/-- The checks of R67 of one role of lines. -/
def roleChecks (s : State) (ap : Fin 8) (role : ApproachEntry → Option (Fin 8)) (line : Option (Fin 8)) : List Check :=
  (approachNumbers.filter (fun o => o ≠ ap ∧ (s.approach o).inUse)).map
    (fun o => (decide (line.isSome ∧ role (s.approach o) = line), .lineRole, o.val))

theorem approachTests_eq (s : State) (ap : Fin 8) (x : RawApproach) :
    approachTests s ap x = fieldTests x ++ roleTests s ap x.inUse (·.checkIn) x.checkIn
      ++ roleTests s ap x.inUse (·.checkOut) x.checkOut
      ++ [(decide (x.inUse = 1 ∧ x.downAddress ≠ 0 ∧ x.downAddress = s.address.toNat), 0x05, 14)] := by
  have hpresence : decide (¬ (x.downDirection = 0 ↔ x.downAddress = 0)) =
      decide ((x.downDirection = 0) ≠ (x.downAddress = 0)) := by
    rw [decide_eq_decide, ne_eq, eq_iff_iff]
  rw [approachTests, hpresence]
  rfl

theorem approachChecks_eq (s : State) (ap : Fin 8) (x : RawApproach) :
    (s.approachChecks ap x).map testOf = fieldTests x ++
      (if x.inUse = 1 then
        (roleChecks s ap (·.checkIn) (lineOfCode x.checkIn)).map testOf
          ++ (roleChecks s ap (·.checkOut) (lineOfCode x.checkOut)).map testOf ++ [testOf (s.ownAddressCheck x)]
      else []) := by
  rw [State.approachChecks, List.map_append]
  split
  · rw [List.map_append, State.lineRoleChecks, List.map_append]
    rfl
  · rfl

/-- The role checks of an entry written in use fail as the tests on all approaches do. -/
theorem roleChecks_alike (s : State) (ap : Fin 8) (role : ApproachEntry → Option (Fin 8)) (code : Nat) :
    ((roleChecks s ap role (lineOfCode code)).map testOf).find? (fun y => y.1) =
      (roleTests s ap 1 role code).find? (fun y => y.1) := by
  rw [roleChecks, List.map_map]
  refine find?_map_filter approachNumbers fun o => ?_
  refine Prod.ext ?_ rfl
  simp only [map_val_eq_some_iff, true_and, Bool.decide_and]
  rfl

/-- An entry not written in use passes the tests against the others. -/
theorem roleTests_of_not_inUse (s : State) (ap : Fin 8) (role : ApproachEntry → Option (Fin 8)) (code : Nat) {inUse : Nat}
    (h : inUse ≠ 1) : (roleTests s ap inUse role code).find? (fun y => y.1) = none := by
  simp [roleTests, h]

theorem approachChecks_alike (s : State) (ap : Fin 8) (x : RawApproach) :
    ((s.approachChecks ap x).map testOf).find? (fun y => y.1) = (approachTests s ap x).find? (fun y => y.1) := by
  rw [approachTests_eq, approachChecks_eq]
  by_cases h : x.inUse = 1
  · have hown : testOf (s.ownAddressCheck x) =
        (decide (x.inUse = 1 ∧ x.downAddress ≠ 0 ∧ x.downAddress = s.address.toNat), 0x05, 14) := by
      rw [h]
      simp only [true_and]
      rfl
    rw [if_pos h, hown, h]
    simp only [List.find?_append, roleChecks_alike, Option.or_assoc]
  · rw [if_neg h]
    simp only [List.find?_append, roleTests_of_not_inUse s ap _ _ h, h, false_and, decide_false, Option.or_none]
    rfl

/-- Settles O48: the first test that fails is reported, and with none failing the write goes on to the busy test. -/
theorem approachWritesChecked : Obligations.ApproachWritesChecked := by
  intro s ap force contents x tests
  have halike := approachChecks_alike s ap x
  have hwrite : s.writeContents .approach ap.val force contents = s.writeApproach ap force contents := by
    rw [State.writeContents, Fin.ofNat_val_eq_self]
  refine ⟨fun code index hfail => ?_, fun hpass => ⟨firstFailure_of_allPass_alike halike hpass, hwrite⟩⟩
  obtain ⟨f, hf, hreply⟩ := firstFailure_of_firstFails_alike halike hfail
  rw [hwrite, ← hreply]
  simp only [State.writeApproach, show firstFailure (s.approachChecks ap (.ofBytes contents)) = some f from hf]

end Sys2Proof.LoadedTables
end

section
/-! The contents tests and the writing of ROUTE and CONFLICTS entries, and the set that written pairs name (R70, R71, R74,
R75). -/

namespace Sys2Proof.LoadedTables

open Sys2Proof.Machine Sys2Proof.Safety Sys2Proof.Laws Sys2Proof.CorridorPorts

/-! ### ROUTE (R70, R71) -/

theorem holed_three (a b c : Nat) :
    holed [a, b, c] = decide ((a = 0 ∧ (b ≠ 0 ∨ c ≠ 0)) ∨ (b = 0 ∧ c ≠ 0)) := by
  by_cases ha : a = 0 <;> by_cases hb : b = 0 <;> by_cases hc : c = 0 <;> simp [holed, ha, hb, hc]

/-- Without a hole the thresholds past 0 rise when each place that holds one exceeds the place before. -/
theorem rising_three {a b c : Nat} (h : holed [a, b, c] = false) :
    (!rising ([a, b, c].filter (fun t => t ≠ 0))) = decide ((b ≠ 0 ∧ b ≤ a) ∨ (c ≠ 0 ∧ c ≤ b)) := by
  rw [holed_three, decide_eq_false_iff_not] at h
  by_cases ha : a = 0
  · obtain ⟨rfl, rfl⟩ : b = 0 ∧ c = 0 := by omega
    simp [rising, ha]
  · by_cases hb : b = 0
    · obtain rfl : c = 0 := by omega
      simp [rising, ha, hb]
    · by_cases hc : c = 0
      all_goals
        rw [Bool.eq_iff_iff]
        simp [rising, ha, hb, hc]

theorem routeChecks_alike (contents : List Byte) :
    ((RawRoute.ofBytes contents).fieldChecks.map testOf).find? (fun y => y.1) =
      (routeTests (.ofBytes contents)).find? (fun y => y.1) := by
  obtain ⟨a, b, c, hplaces⟩ : ∃ a b c, (RawRoute.ofBytes contents).places = [a, b, c] := ⟨_, _, _, rfl⟩
  generalize RawRoute.ofBytes contents = x at hplaces ⊢
  rw [RawRoute.fieldChecks, routeTests, hplaces]
  simp only [List.map_cons, List.map_nil, List.getD_cons_zero, List.getD_cons_succ, ← holed_three]
  change List.find? _ [rangeTest 2 1 9999 x.route, (holed [a, b, c], 0x02, 5), _] = List.find? _ [_, _, _]
  cases hhole : holed [a, b, c] with
  | true =>
    obtain ⟨_ | _, _⟩ := rangeTest 2 1 9999 x.route <;> rfl
  | false =>
    rw [← rising_three hhole]
    rfl

section Duplicate

variable {s : State} {i : Fin 64} {e : RouteEntry}

/-- An entry that holds the key written (R71). -/
def isTwin (s : State) (i : Fin 64) (e : RouteEntry) (j : Fin 64) : Prop :=
  j ≠ i ∧ e.inUse = true ∧ holdsKey s.routes[j] e.route e.direction

/-- The test by which the search for the key goes. -/
def twinTest (s : State) (i : Fin 64) (e : RouteEntry) (j : Fin 64) : Bool :=
  e.inUse && j ≠ i && s.routes[j].inUse && s.routes[j].route = e.route && s.routes[j].direction = e.direction

theorem duplicateRoute_eq : s.duplicateRoute i e = routeNumbers.find? (twinTest s i e) := rfl

theorem twinTest_iff (j : Fin 64) : twinTest s i e j = true ↔ isTwin s i e j := by
  simp only [twinTest, isTwin, holdsKey, Bool.and_eq_true, decide_eq_true_eq, and_assoc]
  exact and_left_comm

theorem duplicateRoute_of_first {j : Fin 64} (hj : isTwin s i e j) (hfirst : ∀ o, o < j → ¬ isTwin s i e o) :
    s.duplicateRoute i e = some j := by
  rw [duplicateRoute_eq, routeNumbers, ← Fin.find?_eq_find?_finRange, Fin.find?_eq_some_iff]
  exact ⟨(twinTest_iff j).mpr hj, fun o ho => Bool.eq_false_iff.mpr (mt (twinTest_iff o).mp (hfirst o ho))⟩

theorem duplicateRoute_of_none (h : ∀ j, ¬ isTwin s i e j) : s.duplicateRoute i e = none := by
  rw [duplicateRoute_eq, List.find?_eq_none]
  exact fun j _ => mt (twinTest_iff j).mp (h j)

end Duplicate

/-! ### CONFLICTS (R74, R75) -/

theorem conflictChecks_tooMany {number : Nat} (pairs : List RawPair) (h : 28 < number) :
    firstFailure (conflictChecks number pairs) = some (.fieldForm, 1) := by
  simp [firstFailure, conflictChecks, h]

theorem conflictChecks_bad {number : Nat} {pairs : List RawPair} {j : Nat} {q : RawPair} (h : number ≤ 28)
    (hq : pairs[j]? = some q) (hbad : badPair q = true) (hfirst : ∀ i < j, ∀ o ∈ pairs[i]?, badPair o = false) :
    firstFailure (conflictChecks number pairs) = some (.pairForm, j) := by
  obtain ⟨hj, heq⟩ := List.getElem?_eq_some_iff.mp hq
  rw [firstFailure, conflictChecks, List.find?_cons_of_neg (by simpa using h), List.find?_map, Option.map_map,
    Option.map_eq_some_iff]
  refine ⟨(q, j), List.find?_eq_some_iff_getElem.mpr ⟨hbad, j, ?_, ?_, fun i hi => ?_⟩, rfl⟩
  · rw [List.length_zipIdx]
    exact hj
  · rw [List.getElem_zipIdx, Nat.zero_add]
    exact Prod.ext heq rfl
  · rw [List.getElem_zipIdx]
    have hgood := hfirst i hi _ (List.getElem?_eq_getElem (hi.trans hj))
    exact congrArg (! ·) hgood

theorem conflictChecks_pass {number : Nat} {pairs : List RawPair} (h : number ≤ 28)
    (hgood : ∀ q ∈ pairs, badPair q = false) : firstFailure (conflictChecks number pairs) = none := by
  rw [firstFailure, conflictChecks, List.find?_cons_of_neg (by simpa using h), List.find?_map, Option.map_map,
    Option.map_eq_none_iff, List.find?_eq_none, List.forall_mem_zipIdx']
  intro i hi
  exact Bool.eq_false_iff.mp (hgood _ (List.getElem_mem hi))

section WriteConflicts

variable {s : State} {contents : List Byte}

theorem writeConflicts_failed {f : Failure}
    (h : firstFailure (conflictChecks (byteAt contents 0) (rawPairs contents)) = some f) :
    s.writeConflicts contents = (s, .inconsistent f) := by
  simp only [State.writeConflicts, h]

theorem writeConflicts_passed (h : firstFailure (conflictChecks (byteAt contents 0) (rawPairs contents)) = none) :
    s.writeConflicts contents =
      (s.storeConflicts (conflictSet (rawPairs contents)), .written (s.tableGens.conflicts + 1)) := by
  simp only [State.writeConflicts, h]

end WriteConflicts

theorem mem_allPairs (a b : Fin 8) : (a, b) ∈ allPairs ↔ a < b := by
  simp [allPairs, approachNumbers]

theorem allPairs_pairwise : allPairs.Pairwise (fun q o => q.1 < o.1 ∨ (q.1 = o.1 ∧ q.2 < o.2)) := by decide

theorem mem_conflictSet (pairs : List RawPair) (a b : Fin 8) :
    (a, b) ∈ conflictSet pairs ↔ a < b ∧ ((a.val, b.val) ∈ pairs ∨ (b.val, a.val) ∈ pairs) := by
  rw [conflictSet, List.mem_filter, mem_allPairs, List.any_eq_true]
  refine and_congr_right fun _ => ?_
  simp only [Bool.or_eq_true, Bool.and_eq_true, decide_eq_true_eq]
  constructor
  · rintro ⟨⟨x, y⟩, hw, ⟨rfl, rfl⟩ | ⟨rfl, rfl⟩⟩
    · exact .inl hw
    · exact .inr hw
  · rintro (h | h)
    · exact ⟨_, h, .inl ⟨rfl, rfl⟩⟩
    · exact ⟨_, h, .inr ⟨rfl, rfl⟩⟩

/-- Settles O49: each write by the first of its tests that fails, and the set of the pairs by the 28 that there are. -/
theorem routeAndConflictsWritesChecked : Obligations.RouteAndConflictsWritesChecked := by
  refine ⟨fun s i force contents => ?_, fun s force contents => ?_,
    fun pairs => ⟨allPairs_pairwise.filter _, mem_conflictSet pairs⟩⟩
  · intro x tests twin written
    have halike := routeChecks_alike contents
    have hwritten : written = s.writeRoute i contents := by
      change s.writeContents .route i.val force contents = _
      rw [State.writeContents, Fin.ofNat_val_eq_self]
    have hpassed (hpass : AllPass tests) : firstFailure x.fieldChecks = none := firstFailure_of_allPass_alike halike hpass
    have htwin (j : Fin 64) : twin j ↔ isTwin s i x.entry j := by
      rw [isTwin, holdsKey, show x.entry.inUse = decide (x.inUse = 1) from rfl, decide_eq_true_iff]
      exact Iff.rfl
    simp only [htwin, hwritten]
    refine ⟨fun code index hfail => ?_, fun j hpass hj hfirst => ?_, fun hpass hnone => ?_⟩
    · obtain ⟨f, hf, hreply⟩ := firstFailure_of_firstFails_alike halike hfail
      rw [← hreply]
      simp only [State.writeRoute, hf]
    · simp only [State.writeRoute, show firstFailure (RawRoute.ofBytes contents).fieldChecks = none from hpassed hpass,
        show s.duplicateRoute i (RawRoute.ofBytes contents).entry = some j from duplicateRoute_of_first hj hfirst]
    · exact writeRoute_passed (hpassed hpass) (duplicateRoute_of_none hnone)
  · intro number pairs bad written
    have hwritten : written = s.writeConflicts contents := rfl
    have hbad (q : RawPair) : bad q ↔ badPair q = true := decide_eq_true_iff.symm
    simp only [hbad, hwritten, Bool.not_eq_true]
    refine ⟨fun hmany => ?_, fun j q hnumber hq hqbad hfirst => ?_, fun hnumber hgood => ?_⟩
    · exact writeConflicts_failed (conflictChecks_tooMany _ hmany)
    · exact writeConflicts_failed (conflictChecks_bad hnumber hq hqbad hfirst)
    · exact writeConflicts_passed (conflictChecks_pass hnumber hgood)

end Sys2Proof.LoadedTables
end

section
/-! What READ STATUS, READ RECORDS, READ SLOTS and READ TABLE return, byte by byte (R62, R113, R136, R181, R191). -/

namespace Sys2Proof.LoadedTables

open Sys2Proof.Machine Sys2Proof.Safety Sys2Proof.Laws Sys2Proof.CorridorPorts

theorem bit_mul (b : Bool) (n : Nat) : bit b * n = if b then n else 0 := by
  cases b
  · exact Nat.zero_mul n
  · exact Nat.one_mul n

/-! ### Bits packed into bytes (R191) -/

section PushedBit

variable (n : Nat) (b : Bool)

theorem testBit_push_zero : (n * 2 + bit b).testBit 0 = b := by
  cases b <;> simp [bit, Nat.testBit_zero]

theorem testBit_push_succ (i : Nat) : (n * 2 + bit b).testBit (i + 1) = n.testBit i := by
  have hhalf : (n * 2 + bit b) / 2 = n := by
    have hbit : bit b ≤ 1 := by cases b <;> decide
    omega
  rw [Nat.testBit_succ, hhalf]

end PushedBit

theorem getLsbD_byteOfBits (bits : List Bool) {j : Nat} (hj : j < 8) :
    (byteOfBits bits).getLsbD (7 - j) = bits.getD j false := by
  rw [byteOfBits, byteOf, BitVec.getLsbD_ofNat, decide_eq_true (by omega), Bool.true_and]
  interval_cases j <;>
    simp only [List.range, List.range.loop, List.foldl_cons, List.foldl_nil, Nat.reduceSub, testBit_push_zero,
      testBit_push_succ]

theorem length_packBits (bits : List Bool) : (packBits bits).length = (bits.length + 7) / 8 := by
  rw [packBits, List.length_map, List.length_range]

/-- The bits that packed bytes hold are the bits packed, and 0 past them. -/
theorem getLsbD_packBits (bits : List Bool) (i : Nat) :
    ((packBits bits).getD (i / 8) 0).getLsbD (7 - i % 8) = bits.getD i false := by
  by_cases hi : i / 8 < (bits.length + 7) / 8
  · have hbyte : (packBits bits).getD (i / 8) 0 = byteOfBits (bits.drop (8 * (i / 8))) := by
      simp [packBits, List.getD_eq_getElem?_getD, hi]
    rw [hbyte, getLsbD_byteOfBits _ (Nat.mod_lt i (by decide)), List.getD_eq_getElem?_getD, List.getElem?_drop,
      Nat.div_add_mod, List.getD_eq_getElem?_getD]
  · rw [List.getD_eq_default _ _ (by rw [length_packBits]; omega), List.getD_eq_default _ _ (by omega)]
    exact BitVec.getLsbD_zero

theorem length_flatMap_fiveBits (ms : List (Fin 24)) : (ms.flatMap fiveBits).length = 5 * ms.length := by
  induction ms with
  | nil => rfl
  | cons r rest ih =>
    rw [List.flatMap_cons, List.length_append, ih, List.length_cons]
    change 5 + _ = _
    omega

theorem getD_fiveBits (r : Fin 24) {j : Nat} (hj : j < 5) : (fiveBits r).getD j false = r.val.testBit (4 - j) := by
  interval_cases j <;> rfl

theorem getD_flatMap_fiveBits {ms : List (Fin 24)} {i j : Nat} {r : Fin 24} (hr : ms[i]? = some r) (hj : j < 5) :
    (ms.flatMap fiveBits).getD (5 * i + j) false = r.val.testBit (4 - j) := by
  induction ms generalizing i with
  | nil => exact nomatch hr
  | cons q rest ih =>
    rw [List.flatMap_cons]
    cases i with
    | zero =>
      obtain rfl := Option.some.inj hr
      rw [List.getD_append _ _ _ _ (by change _ < 5; omega), Nat.mul_zero, Nat.zero_add, getD_fiveBits q hj]
    | succ i =>
      rw [List.getD_append_right _ _ _ _ (by change 5 ≤ _; omega), ← ih hr]
      congr 1
      change _ - 5 = _
      omega

/-! ### READ STATUS and READ RECORDS (R113, R181) -/

theorem kindSet_bits (k : KindSet) :
    k.bits = (if k.extend then 1 else 0) + (if k.early then 2 else 0) + if k.jump then 4 else 0 := by
  rw [KindSet.bits, bit_mul, bit_mul]
  rfl

theorem occupied_eq (s : State) : s.occupied = (List.finRange 24).countP (fun r => (s.record r).isSome) :=
  List.countP_eq_length_filter.symm

theorem occupiedFrom_pairwise (s : State) (start : Nat) : (s.occupiedFrom start).Pairwise (fun r q => r < q) :=
  (List.pairwise_lt_finRange 24).filter _

theorem mem_occupiedFrom (s : State) (start : Nat) (r : Fin 24) :
    r ∈ s.occupiedFrom start ↔ start ≤ r.val ∧ (s.record r).isSome = true := by
  simp [State.occupiedFrom, recordSlots]

/-! ### READ SLOTS (R136) -/

section Codes

theorem elim_slotCode (kind : Option ServiceKind) :
    kind.elim 0 ServiceKind.slotCode = match kind with
      | some .early => 1
      | some .jump => 2
      | _ => 0 := by
  cases kind with
  | none => rfl
  | some kind => cases kind <;> rfl

theorem elim_causeCode (cause : Option CloseCause) :
    cause.elim 0 CloseCause.code = match cause with
      | none => 0
      | some .checkout => 1
      | some .withdraw => 2
      | some .expired => 3
      | some .preempt => 4
      | some .timeout => 5
      | some .startLimit => 6
      | some .serviceLimit => 7
      | some .retire => 8 := by
  cases cause with
  | none => rfl
  | some c => cases c <;> rfl

theorem elim_val (ap : Option (Fin 8)) :
    ap.elim 0 Fin.val = match ap with
      | none => 0
      | some a => a.val := by
  cases ap <;> rfl

/-- A stopped timer reads as code 0 and nothing left. -/
def timerNumbers (t : Option SlotTimer) : Nat × Nat :=
  match t with
  | none => (0, 0)
  | some y => (y.kind.code, y.left)

theorem elim_timerCode (t : Option SlotTimer) : t.elim 0 (fun y => y.kind.code) = (timerNumbers t).1 := by
  cases t <;> rfl

theorem elim_timerLeft (t : Option SlotTimer) : t.elim 0 (fun y => y.left) = (timerNumbers t).2 := by
  cases t <;> rfl

end Codes

/-- The pointer, the lockouts and the slots, before the members. -/
def slotTableHead (s : State) : List Byte :=
  byteOf s.nextCall :: pair12 (s.lockoutLeft 0) (s.lockoutLeft 1) ++ pair12 (s.lockoutLeft 2) (s.lockoutLeft 3)
    ++ pair12 (s.lockoutLeft 4) (s.lockoutLeft 5) ++ pair12 (s.lockoutLeft 6) (s.lockoutLeft 7)
    ++ s.slotBytes 0 ++ s.slotBytes 1 ++ s.slotBytes 2 ++ s.slotBytes 3

/-- The members of the slots, slot by slot. -/
def allMembers (s : State) : List (Fin 24) :=
  (s.slot 0).members ++ (s.slot 1).members ++ (s.slot 2).members ++ (s.slot 3).members

theorem flatMap_callSlots {α : Type} (f : Fin 4 → List α) : callSlots.flatMap f = f 0 ++ f 1 ++ f 2 ++ f 3 := by
  rw [callSlots, show List.finRange 4 = [0, 1, 2, 3] from rfl]
  simp only [List.flatMap_cons, List.flatMap_nil, List.append_nil, List.append_assoc]

theorem slotTableBytes_eq (s : State) : s.slotTableBytes = slotTableHead s ++ packBits ((allMembers s).flatMap fiveBits) := by
  simp only [State.slotTableBytes, slotTableHead, allMembers, flatMap_callSlots, List.flatMap_append, List.append_assoc]

theorem slotTableHead_length (s : State) : (slotTableHead s).length = 37 := rfl

theorem slotTableBytes_take (s : State) : s.slotTableBytes.take 37 = slotTableHead s := by
  rw [slotTableBytes_eq, ← slotTableHead_length s, List.take_left]

theorem slotTableBytes_drop (s : State) : s.slotTableBytes.drop 37 = packBits ((allMembers s).flatMap fiveBits) := by
  rw [slotTableBytes_eq, ← slotTableHead_length s, List.drop_left]

/-- Settles O45: each result by its bytes. -/
theorem replyLayouts : Obligations.ReplyLayouts := by
  intro s flag pair kinds slotCode port line c slot lock members
  have hport (p : Port) : s.portBytes p = port p := by
    simp only [State.portBytes, bit_mul]
    cases p <;> rfl
  have hline (l : Fin 8) : (s.line l).byte = line l := by
    simp only [LineState.byte, bit_mul]
    rfl
  have hcontroller : c.flagsByte =
      byteOf (flag (decide (c.ready = .ready)) 1 + flag c.unresponsive 2 + c.timeoutCount * 4 + flag c.phaseKnown 16) := by
    simp only [Controller.flagsByte, bit_mul]
    rfl
  have hslot (k : Fin 4) : s.slotBytes k = slot k := by
    simp only [State.slotBytes, bit_mul, elim_slotCode, elim_causeCode, elim_val, elim_timerCode, elim_timerLeft]
    rfl
  refine ⟨fun hmode => ?_, fun r x hx => ?_, occupied_eq s,
    fun start => ⟨occupiedFrom_pairwise s start, mem_occupiedFrom s start⟩, ?_, ?_, by decide, fun t start count => rfl,
    fun ap => ?_, fun i => ?_, rfl, rfl⟩
  · have hcode : byteOf s.mode.code = if s.mode = .active then 2 else 1 := by
      cases h : s.mode with
      | unaddressed => exact absurd h hmode
      | standby | active => rfl
    simp only [State.statusBytes, hport, hline, hcode, occupied_eq]
    rw [show s.controller.flagsByte = _ from hcontroller]
    rfl
  · intro word basis state
    have hword : routeWord x.route x.direction = word := by rw [routeWord, bit_mul]
    have hkinds : x.excluded.bits = kinds x.excluded := kindSet_bits x.excluded
    have hslotNumber : x.callSlot.elim 7 Fin.val = match x.callSlot with | none => 7 | some k => k.val := by
      cases x.callSlot <;> rfl
    have hlateness : writeLateness x.lateness = match x.lateness with | none => 0x80 | some n => BitVec.ofInt 8 n := by
      cases x.lateness <;> rfl
    rw [State.recordBytes, hx]
    dsimp only
    rw [Record.bytes, hword, hkinds, hslotNumber, hlateness]
    rfl
  · rw [slotTableBytes_take, ← hslot, ← hslot, ← hslot, ← hslot]
    rfl
  · intro tail bitAt
    have htail : tail = packBits ((allMembers s).flatMap fiveBits) := slotTableBytes_drop s
    have hbit (i : Nat) : bitAt i = ((allMembers s).flatMap fiveBits).getD i false := by
      rw [← getLsbD_packBits, ← htail]
    have hlength := length_flatMap_fiveBits (allMembers s)
    refine ⟨?_, fun i j r hr hj => ?_, fun i hi _ => ?_⟩
    · rw [htail, length_packBits, hlength]
      rfl
    · rw [hbit]
      exact getD_flatMap_fiveBits hr hj
    · rw [hbit]
      exact List.getD_eq_default _ _ (hlength.le.trans hi)
  · rw [State.entryBytes, Fin.ofNat_val_eq_self]
  · simp only [State.entryBytes, Fin.ofNat_val_eq_self]

end Sys2Proof.LoadedTables
end

section
/-! What the laws of the request table and of the quiet modes read of a state, and the operations that write none of it
(R83, R86, R134). -/

namespace Sys2Proof.RequestTable

open Sys2Proof.Machine Sys2Proof.Safety Sys2Proof.Laws Sys2Proof.LoadedTables

/-- The mode, the records, the calls with their timers, the lockouts and the evaluation-due mark. -/
def tableView (s : State) : (SlotView × Vector (Option Record) 24) × Vector (Option Nat) 8 × Bool :=
  (callView s, s.lockouts, s.evalDue)

section View

variable {s t : State} (h : tableView t = tableView s)

include h

theorem callView_of_tableView : callView t = callView s := congrArg Prod.fst h

theorem lockout_of_view (ap : Fin 8) : t.lockout ap = s.lockout ap := congrArg (fun v => v.2.1[ap]) h

theorem evalDue_of_view : t.evalDue = s.evalDue := congrArg (fun v => v.2.2) h

end View

theorem tableView_ite {c : Prop} [Decidable c] {s t u : State} (ht : tableView t = tableView s)
    (hu : tableView u = tableView s) : tableView (if c then t else u) = tableView s := by
  split
  · exact ht
  · exact hu

theorem tableView_forEach {α : Type} (f : α → State → State) (hf : ∀ x t, tableView (f x t) = tableView t) (xs : List α)
    (s : State) : tableView (forEach xs f s) = tableView s :=
  forEach_keeps (P := fun t => tableView t = tableView s) f (fun x t ht => (hf x t).trans ht) xs rfl

/-! ### Counting, raising, ports, lines and replies -/

@[simp] theorem tableView_raise (s : State) (c : Condition) : tableView (s.raise c) = tableView s := by
  simp [tableView]

@[simp] theorem tableView_count (s : State) (ref : CounterRef) : tableView (s.count ref) = tableView s := by
  simp [tableView]

@[simp] theorem tableView_setPort (s : State) (p : Port) (x : PortState) : tableView (s.setPort p x) = tableView s := by
  simp [tableView]

@[simp] theorem tableView_setLine (s : State) (l : Fin 8) (x : LineState) : tableView (s.setLine l x) = tableView s := rfl

@[simp] theorem tableView_setController (s : State) (c : Controller) : tableView (s.setController c) = tableView s := rfl

@[simp] theorem tableView_setReceiver (s : State) (p : Port) (r : Receiver) :
    tableView (s.setReceiver p r) = tableView s := by
  simp [State.setReceiver]

@[simp] theorem tableView_evalFlow (s : State) (p : Port) : tableView (s.evalFlow p) = tableView s := by
  simp [tableView]

@[simp] theorem tableView_setQueue (s : State) (p : Port) (q : List QueuedFrame) :
    tableView (s.setQueue p q) = tableView s := by
  simp [State.setQueue]

@[simp] theorem tableView_enqueue (s : State) (p : Port) (f : QueuedFrame) :
    tableView (s.enqueue p f) = tableView s := by
  simp [tableView]

@[simp] theorem tableView_endEvent (s : State) : tableView s.endEvent = tableView s := by
  simp [tableView]

@[simp] theorem tableView_alertGone (s : State) : tableView s.alertGone = tableView s := rfl

@[simp] theorem tableView_reply (s : State) (x : InboundFrame) (a : Answer) : tableView (s.reply x a) = tableView s := by
  rw [reply_frame]
  rfl

@[simp] theorem tableView_sendNotice (s : State) (ap : Fin 8) (vehicle route : Nat) (direction : Bool)
    (late : Option Int) : tableView (s.sendNotice ap vehicle route direction late) = tableView s := by
  rw [sendNotice_frame]
  rfl

@[simp] theorem tableView_flowAfter (s : State) (old : Params) (p : Port) :
    tableView (s.flowAfter old p) = tableView s := by
  rw [flowAfter_frame]
  rfl

theorem tableView_takeHead {s t : State} {row : HandlerRow} {x : InboundFrame} (h : s.takeHead row = some (x, t)) :
    tableView t = tableView s := by
  unfold State.takeHead at h
  split at h
  · exact nomatch h
  · split at h
    · obtain ⟨rfl, rfl⟩ := Prod.mk.inj (Option.some.inj h)
      rfl
    · exact nomatch h

/-! ### Corridor ports -/

@[simp] theorem tableView_relay (s : State) (p : Port) (f : LinkFrame) : tableView (s.relay p f) = tableView s :=
  tableView_ite (by simp) (tableView_ite (by simp) (tableView_ite (by simp) (by simp)))

@[simp] theorem tableView_route (s : State) (p : Port) (f : LinkFrame) : tableView (s.route p f) = tableView s :=
  have hconsume : tableView (s.consume p f) = tableView s := tableView_ite rfl (by simp)
  tableView_ite hconsume (tableView_ite (by simp [hconsume]) (by simp))

@[simp] theorem tableView_dealByKind (s : State) (p : Port) (f : LinkFrame) :
    tableView (s.dealByKind p f) = tableView s :=
  tableView_ite rfl (tableView_ite (by simp [State.takeHold])
    (tableView_ite (tableView_ite (by simp) rfl) (by simp)))

@[simp] theorem tableView_takeFrame (s : State) (p : Port) (res : RxResult) :
    tableView (s.takeFrame p res) = tableView s := by
  cases res <;> simp [State.takeFrame, State.heardFrame]

@[simp] theorem tableView_frameResult (s : State) (p : Port) (res : RxResult) :
    tableView (s.frameResult p res) = tableView s := by
  unfold State.frameResult
  dsimp only
  split
  case h_1 | h_3 => simp
  case h_2 => exact tableView_ite (by simp) (by simp)

theorem tableView_startChosen {s t : State} {p : Port} {c : TxChoice} (h : s.startChosen p c = some t) :
    tableView t = tableView s := by
  cases c with
  | control c =>
    obtain rfl := Option.some.inj h
    cases c <;> simp [State.startControl]
  | queued f =>
    obtain rfl := Option.some.inj h
    simp [State.startQueued]
  | fill =>
    obtain rfl := Option.some.inj h
    simp [State.startFill]
  | nothing => exact nomatch h

@[simp] theorem tableView_dropSent (s : State) (p : Port) : tableView (s.dropSent p) = tableView s := by
  unfold State.dropSent
  split
  · rfl
  · exact tableView_ite (by simp) (by simp)

@[simp] theorem tableView_disablePort (s : State) (p : Port) : tableView (s.disablePort p).1 = tableView s := by
  unfold State.disablePort
  dsimp only
  split
  · simp
  · rfl

@[simp] theorem tableView_enablePort (s : State) (p : Port) : tableView (s.enablePort p).1 = tableView s := by
  unfold State.enablePort
  dsimp only
  split
  · rfl
  · simp

@[simp] theorem tableView_resetPort (s : State) (p : Port) : tableView (s.resetPort p).1 = tableView s := by
  unfold State.resetPort
  split
  · have hflush := tableView_forEach (fun f t => t.flushFrame p f)
      (fun f t => tableView_ite (by simp) (by simp)) (s.port p).queue s
    simp [hflush]
  · rfl

/-! ### Beacon lines -/

@[simp] theorem tableView_faulted (s : State) (l : Fin 8) : tableView (s.faulted l) = tableView s :=
  tableView_ite (by simp) (by simp)

@[simp] theorem tableView_offerReport (s : State) (l : Fin 8) (rep : Report) :
    tableView (s.offerReport l rep) = tableView s :=
  tableView_ite (by simp) (by simp)

@[simp] theorem tableView_drainReport (s : State) (l : Fin 8) (c : ReportClass) :
    tableView (s.drainReport l c) = tableView s := by
  cases c with
  | framing | checksum | clean => simp [State.drainReport, State.drainCount, State.enterDisabled]
  | parity rep => exact tableView_ite (by simp) (by simp)

@[simp] theorem tableView_reportEnded (s : State) (l : Fin 8) (c : ReportClass) :
    tableView (s.reportEnded l c) = tableView s := by
  have hsuspect (t : State) (rep : Report) : tableView (t.offerSuspect l rep) = tableView t :=
    tableView_ite (by simp) (by simp)
  have hdeal (t : State) : tableView (t.dealReport l c) = tableView t := by
    cases c with
    | framing | checksum | clean => simp [State.dealReport]
    | parity rep => exact tableView_ite (by simp [hsuspect]) (by simp)
  unfold State.reportEnded
  dsimp only
  split <;> simp [hdeal]

@[simp] theorem tableView_disableLine (s : State) (l : Fin 8) : tableView (s.disableLine l).1 = tableView s := by
  unfold State.disableLine
  dsimp only
  split <;> simp [State.enterDisabled]

@[simp] theorem tableView_enableLine (s : State) (l : Fin 8) : tableView (s.enableLine l).1 = tableView s := by
  unfold State.enableLine
  dsimp only
  split <;> simp

end Sys2Proof.RequestTable
end

section
/-! The searches of the request table, and what counting leaves of what they and the level computation read (R82, R83). -/

namespace Sys2Proof.RequestTable

open Sys2Proof.Machine Sys2Proof.Safety Sys2Proof.Laws Sys2Proof.LoadedTables

theorem findVehicle_eq_none_iff (s : State) (v : Nat) :
    s.findVehicle v = none ↔ ∀ r : Fin 24, ∀ x ∈ s.record r, x.vehicle ≠ v := by
  simp [State.findVehicle, recordSlots, Option.any_eq_false]

/-- The search gives the lowest slot whose record carries the vehicle. -/
theorem findVehicle_of_first {s : State} {r : Fin 24} {x : Record} (hx : s.record r = some x)
    (hfirst : ∀ q : Fin 24, q < r → ∀ y ∈ s.record q, y.vehicle ≠ x.vehicle) : s.findVehicle x.vehicle = some r := by
  rw [State.findVehicle, recordSlots, ← Fin.find?_eq_find?_finRange, Fin.find?_eq_some_iff]
  refine ⟨by simp [hx], fun q hq => ?_⟩
  simpa [Option.any_eq_false] using hfirst q hq

theorem findVehicle_of_only {s : State} {r : Fin 24} {x : Record} (hx : s.record r = some x)
    (honly : ∀ q : Fin 24, q ≠ r → ∀ y ∈ s.record q, y.vehicle ≠ x.vehicle) : s.findVehicle x.vehicle = some r :=
  findVehicle_of_first hx fun q hq => honly q (Fin.ne_of_lt hq)

theorem record_of_findVehicle {s : State} {v : Nat} {r : Fin 24} (h : s.findVehicle v = some r) :
    ∃ x, s.record r = some x ∧ x.vehicle = v := by
  have hr := List.find?_some h
  rw [Option.any_eq_true] at hr
  obtain ⟨x, hx, hv⟩ := hr
  exact ⟨x, hx, of_decide_eq_true hv⟩

theorem freeSlot_of_first {s : State} {r : Fin 24} (hr : s.record r = none)
    (hfirst : ∀ q : Fin 24, q < r → (s.record q).isSome = true) : s.freeSlot = some r := by
  rw [State.freeSlot, recordSlots, ← Fin.find?_eq_find?_finRange, Fin.find?_eq_some_iff]
  exact ⟨by rw [hr]; rfl, fun q hq => by simpa [Option.isSome_iff_ne_none] using hfirst q hq⟩

theorem freeSlot_of_full {s : State} (h : ∀ r : Fin 24, (s.record r).isSome = true) : s.freeSlot = none := by
  rw [State.freeSlot, List.find?_eq_none]
  intro r _
  simpa [Option.isSome_iff_ne_none] using h r

section Counted

variable (s : State) (ref : CounterRef)

@[simp] theorem findVehicle_count (v : Nat) : (s.count ref).findVehicle v = s.findVehicle v := by
  simp only [State.findVehicle, record_count]

@[simp] theorem freeSlot_count : (s.count ref).freeSlot = s.freeSlot := by
  simp only [State.freeSlot, record_count]

@[simp] theorem approach_count (ap : Fin 8) : (s.count ref).approach ap = s.approach ap := by
  simp [State.approach]

@[simp] theorem level_count (route : Nat) (direction : Bool) (late : Option Int) :
    (s.count ref).level route direction late = s.level route direction late := by
  simp [State.level, State.routeEntry]

end Counted

end Sys2Proof.RequestTable
end

section
/-! Records that are written, moved and removed stay lawful: each record after a change continues the one its slot held, or
is created for a vehicle without one (R83, R84, R107). -/

namespace Sys2Proof.RequestTable

open Sys2Proof.Machine Sys2Proof.Safety Sys2Proof.Laws Sys2Proof.LoadedTables

/-! ### One record -/

/-- What the law says of one record: a FORECAST one has its upstream junction, and its retry count is below 3. -/
def RecordLaw (x : Record) : Prop := (x.basis = .forecast → x.upstream.isSome = true) ∧ x.retry ≤ 2

/-- A record continues the one a slot held: it is the same vehicle's, and lawful when that was. -/
def Continues (o : Option Record) (x : Record) : Prop := ∃ y ∈ o, x.vehicle = y.vehicle ∧ (RecordLaw y → RecordLaw x)

theorem continues_self {o : Option Record} {x : Record} (hx : o = some x) : Continues o x := ⟨x, hx, rfl, id⟩

/-- A change of a record's other fields continues it. -/
theorem continues_of_same {o : Option Record} {x y : Record} (hy : o = some y) (hv : x.vehicle = y.vehicle)
    (hb : x.basis = y.basis) (hu : x.upstream = y.upstream) (hr : x.retry = y.retry) : Continues o x :=
  ⟨y, hy, hv, fun h => by simpa only [RecordLaw, hb, hu, hr] using h⟩

/-- A record that is no forecast, with the retry count it had or 0, continues what its slot held. -/
theorem continues_of_confirmed {o : Option Record} {x y : Record} (hy : o = some y) (hv : x.vehicle = y.vehicle)
    (hb : x.basis = .confirmed) (hr : x.retry ≤ y.retry) : Continues o x :=
  ⟨y, hy, hv, fun h => ⟨fun hf => (nomatch hb.symm.trans hf), hr.trans h.2⟩⟩

theorem recordsLawful_of_continues {s t : State} (h : ∀ r, ∀ x ∈ t.record r, Continues (s.record r) x)
    (hs : RecordsLawful s) : RecordsLawful t := by
  obtain ⟨hdistinct, hlaw⟩ := hs
  refine ⟨fun r q x hx y hy hv => ?_, fun r x hx => ?_⟩
  · obtain ⟨x', hx', hxv, _⟩ := h r x hx
    obtain ⟨y', hy', hyv, _⟩ := h q y hy
    exact hdistinct r q x' hx' y' hy' (hxv.symm.trans (hv.trans hyv))
  · obtain ⟨x', hx', _, hkeep⟩ := h r x hx
    exact hkeep (hlaw r x' hx')

/-! ### The relation -/

/-- A change keeps the mode, and the law of the records. -/
structure RecordsKept (s t : State) : Prop where
  mode : t.mode = s.mode
  lawful : RecordsLawful s → RecordsLawful t

theorem RecordsKept.refl (s : State) : RecordsKept s s := ⟨rfl, id⟩

theorem RecordsKept.trans {s t u : State} (h : RecordsKept s t) (k : RecordsKept t u) : RecordsKept s u :=
  ⟨k.mode.trans h.mode, k.lawful ∘ h.lawful⟩

theorem recordsKept_of_same {s t : State} (hm : t.mode = s.mode) (h : ∀ r, t.record r = s.record r) :
    RecordsKept s t :=
  ⟨hm, recordsLawful_of_continues fun r _ hx => continues_self ((h r).symm.trans hx)⟩

theorem recordsKept_of_view {s t : State} (h : callView t = callView s) : RecordsKept s t :=
  recordsKept_of_same (mode_of_view (slotView_of_view h)) (record_of_view h)

theorem RecordsKept.view {s t u : State} (h : RecordsKept s t) (hu : callView u = callView t) : RecordsKept s u :=
  h.trans (recordsKept_of_view hu)

theorem recordsKept_ite {c : Prop} [Decidable c] {s t u : State} (ht : RecordsKept s t) (hu : RecordsKept s u) :
    RecordsKept s (if c then t else u) := by
  split
  · exact ht
  · exact hu

theorem recordsKept_forEach {α : Type} (f : α → State → State) (hf : ∀ x t, RecordsKept t (f x t)) (xs : List α)
    (s : State) : RecordsKept s (forEach xs f s) :=
  forEach_keeps (P := RecordsKept s) f (fun x t ht => ht.trans (hf x t)) xs (.refl s)

/-- Some slots are freed, the others kept. -/
theorem recordsKept_of_freed {s t : State} (hm : t.mode = s.mode)
    (h : ∀ r, t.record r = none ∨ t.record r = s.record r) : RecordsKept s t := by
  refine ⟨hm, recordsLawful_of_continues fun r x hx => ?_⟩
  rcases h r with hfree | hsame
  · exact nomatch hfree.symm.trans hx
  · exact continues_self (hsame.symm.trans hx)

theorem recordsKept_setRecord (s : State) (r : Fin 24) (o : Option Record)
    (h : ∀ x ∈ o, Continues (s.record r) x) : RecordsKept s (s.setRecord r o) := by
  refine ⟨rfl, recordsLawful_of_continues fun q x hx => ?_⟩
  rw [record_setRecord] at hx
  split at hx
  case isTrue hq => exact hq ▸ h x hx
  case isFalse => exact continues_self hx

theorem recordsKept_write (s : State) (r : Fin 24) {x : Record} (h : Continues (s.record r) x) :
    RecordsKept s (s.setRecord r (some x)) :=
  recordsKept_setRecord s r _ (by rintro y ⟨⟩; exact h)

/-- A record is created for a vehicle that has none (R83). -/
theorem recordsKept_create (s : State) (r : Fin 24) {x : Record} (hx : RecordLaw x)
    (hnew : ∀ q : Fin 24, ∀ y ∈ s.record q, y.vehicle ≠ x.vehicle) : RecordsKept s (s.createIn r x) := by
  refine RecordsKept.view (t := s.setRecord r (some x)) ⟨rfl, fun hs => ?_⟩ (callView_markDue _)
  have hcases {q : Fin 24} {y : Record} (hy : y ∈ (s.setRecord r (some x)).record q) :
      q = r ∧ y = x ∨ y ∈ s.record q := by
    rw [record_setRecord] at hy
    split at hy
    case isTrue hq => exact .inl ⟨hq, (Option.some.inj hy).symm⟩
    case isFalse => exact .inr hy
  obtain ⟨hdistinct, hlaw⟩ := hs
  refine ⟨fun p q y hy z hz hv => ?_, fun q y hy => ?_⟩
  · rcases hcases hy with ⟨rfl, rfl⟩ | hold <;> rcases hcases hz with ⟨rfl, rfl⟩ | hold'
    · rfl
    · exact absurd hv.symm (hnew q z hold')
    · exact absurd hv (hnew p y hold)
    · exact hdistinct p q y hold z hold' hv
  · rcases hcases hy with ⟨_, rfl⟩ | hold
    · exact hx
    · exact hlaw q y hold

/-! ### Call slots and their members (R106 to R109, R127 to R132) -/

theorem recordsKept_takeOut (s : State) (r : Fin 24) (outcome : ApproachCounter) :
    RecordsKept s (s.takeOut r outcome) := by
  refine recordsKept_of_freed (mode_of_view (slotView_takeOut s r outcome)) fun q => ?_
  rw [record_takeOut]
  exact ite_eq_or_eq _ _ _

/-- A member returned three times is removed, so a record that stays has returned twice at most (R108). -/
theorem recordsKept_returnMember (s : State) (holdOff : Option Nat) (exclude : Option ServiceKind) (r : Fin 24) :
    RecordsKept s (s.returnMember holdOff exclude r) := by
  unfold State.returnMember
  split
  · exact .refl s
  case h_2 x hx =>
    dsimp only
    split
    case isTrue => exact (recordsKept_setRecord s r none fun y hy => nomatch hy).view (callView_count _ _)
    case isFalse hretry =>
      have hlow : x.retry + 1 ≤ 2 := by
        unfold Config.retryLimit at hretry
        omega
      exact recordsKept_write s r ⟨x, hx, rfl, fun h => ⟨h.1, hlow⟩⟩

theorem recordsKept_returnMembers (s : State) (ms : List (Fin 24)) (holdOff : Option Nat)
    (exclude : Option ServiceKind) : RecordsKept s (s.returnMembers ms holdOff exclude) :=
  recordsKept_forEach _ (fun r t => recordsKept_returnMember t holdOff exclude r) ms s

theorem recordsKept_closeSlot (s : State) (k : Fin 4) (cause : CloseCause) : RecordsKept s (s.closeSlot k cause) :=
  recordsKept_of_same (by rw [closeSlot_frame]) (record_closeSlot s k cause)

theorem recordsKept_idleSlot (s : State) (k : Fin 4) : RecordsKept s (s.idleSlot k) :=
  recordsKept_of_same (by rw [idleSlot_frame]) (record_idleSlot s k)

theorem recordsKept_closeReturning (s : State) (k : Fin 4) (cause : CloseCause) :
    RecordsKept s (s.closeReturning k cause) :=
  (recordsKept_closeSlot s k cause).trans (recordsKept_returnMembers _ _ _ _)

theorem recordsKept_idleReturning (s : State) (k : Fin 4) (holdOff : Option Nat) (exclude : Option ServiceKind) :
    RecordsKept s (s.idleReturning k holdOff exclude) :=
  (recordsKept_idleSlot s k).trans (recordsKept_returnMembers _ _ _ _)

theorem recordsKept_advanceSlot (s : State) (k : Fin 4) (timer : SlotTimer) (st : SlotState) :
    RecordsKept s ((s.setSlotTimer k (some timer)).advanceSlot k st) := by
  rw [advanceSlot_eq]
  refine RecordsKept.view ?_ (callView_markDue _)
  have hmode := mode_of_view (slotView_memberStates st.memberState (s.slot k).members
    ((s.setSlotTimer k (some timer)).setSlot k { s.slot k with state := st }))
  refine ⟨hmode, recordsLawful_of_continues fun r x hx => ?_⟩
  rw [record_memberStates, record_setSlot, record_setSlotTimer] at hx
  split at hx
  · obtain ⟨y, hy, rfl⟩ := Option.map_eq_some_iff.mp hx
    exact continues_of_same hy rfl rfl rfl rfl
  · exact continues_self hx

theorem recordsKept_removeRecord (s : State) (r : Fin 24) (outcome : ApproachCounter) (cause : CloseCause) :
    RecordsKept s (s.removeRecord r outcome cause) := by
  unfold State.removeRecord
  split
  · exact .refl s
  · split
    · exact recordsKept_takeOut s r outcome
    · exact (recordsKept_takeOut s r outcome).trans
        (recordsKept_ite (recordsKept_closeSlot _ _ cause) (recordsKept_of_same rfl fun _ => rfl))

/-! ### Evaluation (R117 to R127) -/

theorem recordsKept_tryJoin (s : State) (r : Fin 24) : RecordsKept s (s.tryJoin r) := by
  rcases tryJoin_cases s r with he | ⟨k, x, he, hx, _⟩
  · rw [he]
    exact .refl s
  · rw [he]
    refine RecordsKept.trans (t := s.setSlot k _) (recordsKept_of_same rfl fun _ => rfl) (recordsKept_write _ r ?_)
    exact continues_of_same hx rfl rfl rfl rfl

theorem recordsKept_openNext {s t : State} (h : s.openNext = some t) : RecordsKept s t := by
  unfold State.openNext at h
  split at h
  · split at h
    case h_1 r k _ _ =>
      split at h
      case h_1 x kind hx _ =>
        obtain rfl := Option.some.inj h
        have hopened : RecordsKept s (opened s k r x kind) := by
          refine ⟨opened_mode s k r x kind, recordsLawful_of_continues fun q y hy => ?_⟩
          rw [record_opened] at hy
          split at hy
          case isTrue hq =>
            obtain rfl := Option.some.inj hy
            subst hq
            exact continues_of_same hx rfl rfl rfl rfl
          case isFalse => exact continues_self hy
        rw [openSlot_eq]
        exact (hopened.view (by simp)).trans (recordsKept_forEach _ (fun q u => recordsKept_tryJoin u q) _ _)
      case h_2 => exact nomatch h
    · exact nomatch h
  · exact nomatch h

theorem recordsKept_opening (rounds : Nat) (s : State) : RecordsKept s (State.opening rounds s) := by
  induction rounds generalizing s with
  | zero => exact .refl s
  | succ rounds ih =>
    unfold State.opening
    split
    · exact .refl s
    case h_2 ht => exact (recordsKept_openNext ht).trans (ih _)

theorem recordsKept_evaluate (s : State) : RecordsKept s s.evaluate :=
  have hpreempt (k : Fin 4) (t : State) : RecordsKept t (t.preemptSlot k) :=
    (recordsKept_closeReturning t k .preempt).view (callView_preemptSlot t k)
  ((recordsKept_forEach _ (fun r t => recordsKept_tryJoin t r) _ s).trans (recordsKept_opening 4 _)).trans
    (recordsKept_forEach _ hpreempt _ _)

/-! ### Reports and notices (R87 to R103) -/

theorem recordsKept_createOrDisplace (s : State) {x : Record} (hx : RecordLaw x)
    (hnew : ∀ q : Fin 24, ∀ y ∈ s.record q, y.vehicle ≠ x.vehicle) : RecordsKept s (s.createOrDisplace x) := by
  unfold State.createOrDisplace
  split
  · exact recordsKept_create s _ hx hnew
  · split
    case h_1 r _ =>
      refine (recordsKept_takeOut s r .displaced).trans (recordsKept_create _ r hx fun q y hy => hnew q y ?_)
      rw [record_takeOut] at hy
      split at hy
      · exact nomatch hy
      · exact hy
    case h_2 => exact recordsKept_of_view (by simp [State.dropFull])

theorem continues_refreshed (s : State) {o : Option Record} {x : Record} (hx : o = some x) (rep : Report) (ap : Fin 8)
    (level : Nat) : Continues o (s.refreshed x rep ap level) := by
  unfold State.refreshed
  dsimp only
  split
  · exact continues_of_confirmed hx rfl rfl (Nat.le_refl _)
  · exact continues_of_confirmed hx rfl rfl (Nat.zero_le _)

theorem recordsKept_takeCheckIn (s : State) (rep : Report) (ap : Fin 8) : RecordsKept s (s.takeCheckIn rep ap) := by
  refine (recordsKept_of_view (callView_count s (.approach ap .checkIns))).trans ?_
  unfold State.takeCheckIn
  dsimp only
  generalize s.count (.approach ap .checkIns) = u
  split
  case h_1 hnone =>
    unfold State.checkInNew
    split
    · exact recordsKept_of_view (callView_count _ _)
    · refine recordsKept_createOrDisplace u ⟨fun hf => ?_, Nat.zero_le _⟩ ((findVehicle_eq_none_iff u _).mp hnone)
      cases hsuspect : rep.suspect <;> simp [newRecord, hsuspect] at hf
  case h_2 r _ =>
    refine recordsKept_ite (.refl u) ?_
    split
    · exact .refl u
    case h_2 x hx =>
      unfold State.checkInFound
      split
      · split
        · exact recordsKept_takeOut u r .refused
        · exact (recordsKept_write u r (continues_refreshed u hx rep ap _)).view (callView_markDue _)
      · exact recordsKept_write u r (continues_of_confirmed hx rfl rfl (Nat.le_refl _))

theorem recordsKept_takeCheckOut (s : State) (rep : Report) (ap : Fin 8) : RecordsKept s (s.takeCheckOut rep ap) := by
  have hremoved : RecordsKept s ((s.count (.approach ap .checkOuts)).removeCheckedOut rep.vehicle) := by
    refine (recordsKept_of_view (callView_count s (.approach ap .checkOuts))).trans ?_
    unfold State.removeCheckedOut
    split
    · exact .refl _
    · split
      · exact .refl _
      · exact recordsKept_removeRecord _ _ _ _
  exact recordsKept_ite hremoved (hremoved.view (callView_sendNotice ..))

theorem recordsKept_takeCancel (s : State) (rep : Report) : RecordsKept s (s.takeCancel rep) := by
  refine recordsKept_ite (.refl s) ?_
  split
  · exact .refl s
  · exact recordsKept_removeRecord s _ _ _

theorem recordsKept_handReport (s : State) (rep : Report) : RecordsKept s (s.handReport rep) := by
  unfold State.handReport
  split
  · split
    · exact recordsKept_takeCheckIn s rep _
    · exact recordsKept_of_view (callView_count _ _)
  · split
    · exact recordsKept_takeCheckOut s rep _
    · exact recordsKept_of_view (callView_count _ _)
  · exact recordsKept_takeCancel s rep

/-- A notice creates a FORECAST record with its upstream junction, or corroborates one (R102, R103). -/
theorem recordsKept_takeNotice (s : State) (n : NoticeArrival) (ap : Fin 8) : RecordsKept s (s.takeNotice n ap) := by
  refine (recordsKept_of_view (callView_count s (.approach ap .noticesIn))).trans ?_
  unfold State.takeNotice
  dsimp only
  generalize s.count (.approach ap .noticesIn) = u
  split
  case h_1 hnone =>
    unfold State.noticeNew
    split
    · exact recordsKept_of_view (callView_count _ _)
    · split
      · exact recordsKept_of_view (by simp [State.dropFull])
      · exact recordsKept_create u _ ⟨fun _ => rfl, Nat.zero_le _⟩ ((findVehicle_eq_none_iff u _).mp hnone)
  case h_2 r _ =>
    split
    · exact .refl u
    case h_2 x hx =>
      refine recordsKept_ite ((recordsKept_write u r ?_).view (callView_markDue _))
        (recordsKept_of_view (callView_count _ _))
      exact continues_of_confirmed hx rfl rfl (Nat.le_refl _)

/-! ### The phase port (R146 to R151) -/

section Messages

variable (s : State) (k : Fin 4)

theorem recordsKept_stray : RecordsKept s s.stray := recordsKept_of_view (callView_stray s)

theorem recordsKept_countOnSlot (c : ApproachCounter) : RecordsKept s (s.countOnSlot k c) :=
  recordsKept_of_view (callView_countOnSlot s k c)

theorem recordsKept_acceptFor : RecordsKept s (s.acceptFor k) := by
  unfold State.acceptFor
  split
  case h_1 => exact (recordsKept_countOnSlot s k _).trans (recordsKept_advanceSlot _ k _ _)
  all_goals exact recordsKept_stray s

theorem recordsKept_startFor : RecordsKept s (s.startFor k) := by
  unfold State.startFor
  split
  case h_1 => exact (recordsKept_countOnSlot s k _).trans (recordsKept_advanceSlot _ k _ _)
  case h_2 => exact recordsKept_advanceSlot s k _ _
  all_goals exact recordsKept_stray s

theorem recordsKept_denySlot (reason : DenyReason) : RecordsKept s (s.denySlot k reason) :=
  (recordsKept_countOnSlot s k .denies).trans (recordsKept_idleReturning _ k _ _)

theorem recordsKept_denyFor (reason : DenyReason) : RecordsKept s (s.denyFor k reason) := by
  unfold State.denyFor
  split
  case h_1 | h_2 => exact recordsKept_denySlot s k reason
  all_goals exact recordsKept_stray s

theorem recordsKept_endServing (reason : EndReason) : RecordsKept s (s.endServing k reason) := by
  have hidled : RecordsKept s ((s.setSlot k { s.slot k with wasServing := true }).idleReturning k none none) :=
    RecordsKept.trans (t := s.setSlot k _) (recordsKept_of_same rfl fun _ => rfl)
      (recordsKept_idleReturning _ k none none)
  unfold State.endServing
  dsimp only
  split
  · exact hidled
  · exact hidled.view (callView_raise _ _)
  · exact hidled.view (by simp)

theorem recordsKept_endFor (reason : EndReason) : RecordsKept s (s.endFor k reason) := by
  unfold State.endFor
  split
  case h_1 | h_2 => exact recordsKept_denySlot s k .notNow
  case h_3 => exact recordsKept_endServing s k reason
  case h_4 => exact recordsKept_idleSlot s k
  case h_5 => exact recordsKept_stray s

end Messages

/-! ### Retirement and DECOMMISSION (R68, R111, R134) -/

theorem recordsKept_retire (s : State) (ap : Fin 8) : RecordsKept s (s.retire ap) := by
  refine recordsKept_of_freed (by rw [retire_frame]) fun r => ?_
  rw [record_retire]
  exact ite_eq_or_eq _ _ _

end Sys2Proof.RequestTable
end

section
/-! A DECOMMISSION leaves no record, call, lockout or mark; and what a command may do to the records and outside ACTIVE is
said as one relation (R86, R116, R134, R186, R187). -/

namespace Sys2Proof.RequestTable

open Sys2Proof.Machine Sys2Proof.Safety Sys2Proof.Laws Sys2Proof.LoadedTables Sys2Proof.CorridorPorts

/-! ### DECOMMISSION (R134, R187) -/

/-- The state in which a DECOMMISSION has emptied the request table and given every slot up. -/
def emptied (s : State) : State := forEach callSlots (fun k t => t.giveUp k) s.retireAll

theorem decommission_eq (s : State) :
    s.decommission =
      { emptied s with lockouts := Vector.replicate 8 none, evalDue := false, mode := .standby } := rfl

theorem record_retireAll (s : State) (r : Fin 24) : s.retireAll.record r = none :=
  (record_takeOutEach recordSlots s r).trans (if_pos (List.mem_finRange r))

section Emptied

variable (s : State)

theorem record_emptied (r : Fin 24) : (emptied s).record r = none :=
  forEach_keeps (P := fun t => t.record r = none) _ (fun k t ht => (record_giveUp t k r).trans ht) callSlots
    (record_retireAll s r)

theorem slot_emptied (k : Fin 4) : (emptied s).slot k = .idle :=
  (slot_giveUpEach callSlots s.retireAll k).trans (if_pos (List.mem_finRange k))

theorem slotTimer_emptied (k : Fin 4) : (emptied s).slotTimer k = none :=
  (slotTimer_giveUpEach callSlots s.retireAll k).trans (if_pos (List.mem_finRange k))

end Emptied

theorem record_decommission (s : State) (r : Fin 24) : s.decommission.record r = none := by
  rw [decommission_eq, ← record_emptied s r]
  generalize emptied s = t
  rfl

theorem slot_decommission (s : State) (k : Fin 4) : s.decommission.slot k = .idle := by
  rw [decommission_eq, ← slot_emptied s k]
  generalize emptied s = t
  rfl

theorem slotTimer_decommission (s : State) (k : Fin 4) : s.decommission.slotTimer k = none := by
  rw [decommission_eq, ← slotTimer_emptied s k]
  generalize emptied s = t
  rfl

theorem lockout_decommission (s : State) (ap : Fin 8) : s.decommission.lockout ap = none := by
  simp [decommission_eq, State.lockout]

/-! ### The relation -/

/-- A change keeps the law of the records, and the quiet of the modes that are not ACTIVE. -/
structure TableKept (s t : State) : Prop where
  records : RecordsLawful s → RecordsLawful t
  quiet : QuietOutsideActive s → QuietOutsideActive t

theorem TableKept.refl (s : State) : TableKept s s := ⟨id, id⟩

theorem TableKept.trans {s t u : State} (h : TableKept s t) (k : TableKept t u) : TableKept s u :=
  ⟨k.records ∘ h.records, k.quiet ∘ h.quiet⟩

theorem tableKept_of_view {s t : State} (h : tableView t = tableView s) : TableKept s t := by
  have hcall := callView_of_tableView h
  refine ⟨(recordsKept_of_view hcall).lawful, fun hs => ?_⟩
  simpa only [QuietOutsideActive, mode_of_view (slotView_of_view hcall), record_of_view hcall,
    slot_of_view (slotView_of_view hcall), slotTimer_of_view (slotView_of_view hcall), lockout_of_view h,
    evalDue_of_view h] using hs

theorem TableKept.view {s t u : State} (h : TableKept s t) (hu : tableView u = tableView t) : TableKept s u :=
  h.trans (tableKept_of_view hu)

theorem tableKept_ite {c : Prop} [Decidable c] {s t u : State} (ht : c → TableKept s t) (hu : ¬ c → TableKept s u) :
    TableKept s (if c then t else u) := by
  split
  · exact ht ‹c›
  · exact hu ‹¬ c›

/-- The mark is set in ACTIVE alone (R116). -/
theorem tableKept_markDue (s : State) : TableKept s s.markDue := by
  refine ⟨(recordsKept_of_view (callView_markDue s)).lawful, fun hs => ?_⟩
  unfold State.markDue
  split
  case isTrue hm => exact fun hquiet => absurd hm hquiet
  case isFalse => exact hs

theorem TableKept.marked {s t : State} (h : TableKept s t) : TableKept s t.markDue := h.trans (tableKept_markDue t)

/-- A change that a quiet state leaves no room for outside ACTIVE keeps the quiet. -/
theorem tableKept_of_active {s t : State} (h : RecordsKept s t) (hm : QuietOutsideActive s → s.mode = .active) :
    TableKept s t :=
  ⟨h.lawful, fun hs hquiet => absurd (h.mode.trans (hm hs)) hquiet⟩

/-- In a quiet state a record stands in ACTIVE alone. -/
theorem active_of_record {s : State} {r : Fin 24} {x : Record} (hx : s.record r = some x)
    (hs : QuietOutsideActive s) : s.mode = .active := by
  by_contra hm
  obtain ⟨hnone, _⟩ := hs hm
  exact nomatch (hnone r).symm.trans hx

/-- In a quiet state a call stands in ACTIVE alone. -/
theorem active_of_call {s : State} {k : Fin 4} (hk : (s.slot k).state ≠ .idle) (hs : QuietOutsideActive s) :
    s.mode = .active := by
  by_contra hm
  obtain ⟨_, hidle, _⟩ := hs hm
  refine hk ?_
  rw [(hidle k).1]
  rfl

/-! ### Changes that a command makes -/

theorem tableKept_removeRecord (s : State) (r : Fin 24) (outcome : ApproachCounter) (cause : CloseCause) :
    TableKept s (s.removeRecord r outcome cause) := by
  cases hx : s.record r with
  | none =>
    have hsame : s.removeRecord r outcome cause = s := by simp only [State.removeRecord, hx]
    rw [hsame]
    exact .refl s
  | some x => exact tableKept_of_active (recordsKept_removeRecord s r outcome cause) (active_of_record hx)

theorem tableKept_setLockout (s : State) (ap : Fin 8) : TableKept s (s.setLockout ap none) := by
  refine ⟨(recordsKept_of_view (callView_setLockout s ap none)).lawful, fun hs hm => ?_⟩
  obtain ⟨hrecord, hslot, hlockout, hmark⟩ := hs hm
  refine ⟨hrecord, hslot, fun o => ?_, hmark⟩
  rw [lockout_setLockout, hlockout]
  exact ite_self none

theorem tableKept_noticeFrameTaken (s : State) (f : LinkFrame) : TableKept s (s.noticeFrameTaken f) := by
  refine tableKept_ite (fun hm => ?_) (fun _ => .refl s)
  split
  · exact tableKept_of_view (tableView_count _ _)
  · split
    · exact tableKept_of_view (tableView_count _ _)
    · exact tableKept_of_active (recordsKept_takeNotice s _ _) fun _ => hm

/-- A valid message is heard in every mode. -/
theorem tableKept_validMessage (s : State) : TableKept s s.validMessage := by
  refine TableKept.trans (t := s.messageDone) (tableKept_of_view rfl) (tableKept_ite (fun _ => ?_) fun _ => ?_)
  · exact TableKept.marked (tableKept_of_view (tableView_setController _ _))
  · exact tableKept_of_view (tableView_setController _ _)

/-- A slot message acts on a slot that holds a call, or is stray (R145). -/
theorem tableKept_forCall (s : State) (n : Nat) (act : Fin 4 → State → State)
    (hact : ∀ k t, RecordsKept t (act k t)) : TableKept s (s.forCall n act) := by
  unfold State.forCall
  split
  case h_1 => exact tableKept_of_view (tableView_count _ _)
  case h_2 k hk =>
    refine tableKept_of_active (hact k s) (active_of_call (k := k) ?_)
    unfold State.slotOfCall at hk
    split at hk
    · have hheld := List.find?_some hk
      rw [Bool.and_eq_true, decide_eq_true_eq] at hheld
      exact hheld.1
    · exact nomatch hk

theorem tableKept_responseMissed (s : State) : TableKept s s.responseMissed := by
  refine TableKept.trans (t := s.count (.controller .timeouts)) (tableKept_of_view (tableView_count _ _)) ?_
  refine tableKept_ite (fun _ => TableKept.marked (tableKept_of_view ?_)) (fun _ => tableKept_of_view ?_)
  · simp
  · exact tableView_setController _ _

/-! ### The table store and the modes (R68, R134, R186, R187) -/

/-- An approach is retired when it is busy, and so in ACTIVE (R68). -/
theorem tableKept_writeApproach (s : State) (ap : Fin 8) (force : Bool) (contents : List Byte) :
    TableKept s (s.writeApproach ap force contents).1 := by
  have hstore (t : State) (e : ApproachEntry) : TableKept t (t.storeApproach ap e) := tableKept_of_view rfl
  unfold State.writeApproach
  dsimp only
  split
  · exact .refl s
  · split
    · exact .refl s
    · refine TableKept.marked (TableKept.trans (tableKept_ite (fun hbusy => ?_) fun _ => .refl s) (hstore _ _))
      exact tableKept_of_active (recordsKept_retire s ap) fun _ => ((busy_iff s ap).mp hbusy).1

theorem tableKept_writeRoute (s : State) (i : Fin 64) (contents : List Byte) :
    TableKept s (s.writeRoute i contents).1 := by
  unfold State.writeRoute
  dsimp only
  split
  · exact .refl s
  · split
    · exact .refl s
    · exact tableKept_of_view rfl

theorem tableKept_writeConflicts (s : State) (contents : List Byte) : TableKept s (s.writeConflicts contents).1 := by
  unfold State.writeConflicts
  split
  · exact .refl s
  · exact ⟨id, id⟩

theorem tableKept_writeParams (s : State) (contents : List Byte) : TableKept s (s.writeParams contents).1 := by
  have hstore (e : Params) : tableView (s.storeParams e) = tableView s := rfl
  unfold State.writeParams
  dsimp only
  split
  · exact .refl s
  · split
    · exact .refl s
    · exact TableKept.marked (tableKept_of_view (by simp [hstore]))

theorem tableKept_writeEntryRequest (b : List Byte) (s : State) : TableKept s (writeEntryRequest b s).1 := by
  unfold writeEntryRequest
  split
  · exact .refl s
  case h_2 tab _ =>
    dsimp only
    split_ifs
    · exact .refl s
    · exact .refl s
    · exact .refl s
    · cases tab with
      | approach => exact tableKept_writeApproach s _ _ _
      | route => exact tableKept_writeRoute s _ _
      | conflicts => exact tableKept_writeConflicts s _
      | params => exact tableKept_writeParams s _

theorem tableKept_withdrawRequest (b : List Byte) (s : State) : TableKept s (withdrawRequest b s).1 := by
  unfold withdrawRequest
  split
  · exact .refl s
  · split
    · exact .refl s
    · exact tableKept_removeRecord s _ _ _

/-- A COMMISSION that passes leaves the modes that are to be quiet. -/
theorem tableKept_commissionRequest (b : List Byte) (s : State) : TableKept s (commissionRequest b s).1 := by
  unfold commissionRequest
  split
  · split
    · exact .refl s
    · exact ⟨id, fun _ hm => absurd rfl hm⟩
  · exact .refl s

theorem tableKept_decommissionRequest (b : List Byte) (s : State) : TableKept s (decommissionRequest b s).1 := by
  unfold decommissionRequest
  split
  · refine ⟨recordsLawful_of_continues fun r x hx => ?_, fun _ _ => ?_⟩
    · exact nomatch (record_decommission s r).symm.trans hx
    · exact ⟨record_decommission s, fun k => ⟨slot_decommission s k, slotTimer_decommission s k⟩,
        lockout_decommission s, rfl⟩
  · exact .refl s

end Sys2Proof.RequestTable
end

section
/-! Every command, and so every step, keeps the law of the records, and the quiet of the modes that are not ACTIVE. -/

namespace Sys2Proof.RequestTable

open Sys2Proof.Machine Sys2Proof.Safety Sys2Proof.Laws Sys2Proof.LoadedTables Sys2Proof.CorridorPorts

/-! ### What a command answers -/

/-- Whatever state an outcome answers, the change to it is kept in bounds. -/
def KeepsTable (s : State) (o : Host.Outcome State Fault Refusal) : Prop := ∀ t, o = .next t → TableKept s t

theorem keepsTable_noEvent (s : State) : KeepsTable s (noEvent s) := by
  rintro t ⟨⟩
  exact .refl s

theorem keepsTable_taken {s u : State} (h : TableKept s u) : KeepsTable s (taken u) := by
  rintro t ⟨⟩
  exact h.view (tableView_endEvent u)

/-- An event that writes none of the table. -/
theorem keepsTable_view {s u : State} (h : tableView u = tableView s) : KeepsTable s (taken u) :=
  keepsTable_taken (tableKept_of_view h)

theorem keepsTable_ite {c : Prop} [Decidable c] {s : State} {o q : Host.Outcome State Fault Refusal}
    (ho : c → KeepsTable s o) (hq : ¬ c → KeepsTable s q) : KeepsTable s (if c then o else q) := by
  split
  · exact ho ‹c›
  · exact hq ‹¬ c›

/-- A request keeps what carrying it out keeps. -/
theorem keepsTable_request (row : HandlerRow) (carryOut : List Byte → State → State × Answer)
    (hcarry : ∀ b t, TableKept t (carryOut b t).1) (s : State) : KeepsTable s (request row carryOut s) := by
  unfold request
  split
  · exact keepsTable_noEvent s
  case h_2 htake =>
    exact keepsTable_taken (((tableKept_of_view (tableView_takeHead htake)).trans (hcarry _ _)).view
      (tableView_reply ..))

/-- A request that carries out no change of its own. -/
theorem keepsTable_request_same (row : HandlerRow) (carryOut : List Byte → State → State × Answer)
    (hcarry : ∀ b t, (carryOut b t).1 = t) (s : State) : KeepsTable s (request row carryOut s) :=
  keepsTable_request row carryOut (fun b t => tableKept_of_view (by rw [hcarry])) s

/-! ### Corridor rows -/

section Corridor

variable (p : Port) (s : State)

theorem keepsTable_frameStart (more : List SerialChar) : KeepsTable s (execFrameStart p more s) := by
  refine keepsTable_ite (fun _ => ?_) (fun _ => keepsTable_noEvent s)
  split
  case h_1 => exact keepsTable_view (tableView_setPort ..)
  all_goals exact keepsTable_noEvent s

theorem keepsTable_validFrame (chars : List SerialChar) : KeepsTable s (execValidFrame p chars s) := by
  unfold execValidFrame
  split
  · exact keepsTable_view (by simp)
  · exact keepsTable_noEvent s

theorem keepsTable_crcError (chars : List SerialChar) : KeepsTable s (execCrcError p chars s) := by
  unfold execCrcError
  split
  · exact keepsTable_view (by simp)
  · exact keepsTable_noEvent s

theorem keepsTable_lengthError (chars : List SerialChar) : KeepsTable s (execLengthError p chars s) := by
  unfold execLengthError
  split
  · exact keepsTable_view (by simp)
  · exact keepsTable_noEvent s

theorem keepsTable_corridorRxIdle : KeepsTable s (execCorridorRxIdle p s) := by
  unfold execCorridorRxIdle
  split <;> exact keepsTable_view (by simp)

theorem keepsTable_txStart : KeepsTable s (execTxStart p s) := by
  refine keepsTable_ite (fun _ => ?_) (fun _ => keepsTable_noEvent s)
  split
  case h_1 hstart => exact keepsTable_view (tableView_startChosen hstart)
  case h_2 => exact keepsTable_noEvent s

theorem keepsTable_frameTxEnd : KeepsTable s (execFrameTxEnd p s) := by
  unfold execFrameTxEnd
  split
  · exact keepsTable_noEvent s
  · dsimp only
    split <;> exact keepsTable_view (by simp [State.freeLine])

theorem keepsTable_fillTimerExpiry : KeepsTable s (execFillTimerExpiry p s) :=
  keepsTable_ite
    (fun _ => keepsTable_ite (fun _ => keepsTable_view (by simp [State.startFill])) fun _ => keepsTable_view (by simp))
    (fun _ => keepsTable_noEvent s)

theorem keepsTable_holdTimerExpiry : KeepsTable s (execHoldTimerExpiry p s) := by
  unfold execHoldTimerExpiry
  dsimp only
  split
  · exact keepsTable_noEvent s
  · exact keepsTable_view (by simp)

theorem keepsTable_holdRepeatExpiry : KeepsTable s (execHoldRepeatExpiry p s) := by
  unfold execHoldRepeatExpiry
  dsimp only
  split
  · exact keepsTable_noEvent s
  · exact keepsTable_view (by simp)

theorem keepsTable_silenceTimerExpiry : KeepsTable s (execSilenceTimerExpiry p s) :=
  keepsTable_ite (fun _ => keepsTable_view (by simp)) (fun _ => keepsTable_noEvent s)

theorem keepsTable_drainComplete : KeepsTable s (execDrainComplete p s) :=
  keepsTable_ite (fun _ => keepsTable_view (by simp)) (fun _ => keepsTable_noEvent s)

theorem keepsTable_portControl (row : HandlerRow) (action : Nat) (act : Port → State → State × Status)
    (hact : ∀ q t, tableView (act q t).1 = tableView t) : KeepsTable s (request row (portControl action act) s) := by
  refine keepsTable_request row _ (fun b t => tableKept_of_view ?_) s
  unfold portControl
  split
  · rfl
  · split
    · rfl
    · exact hact _ t

end Corridor

/-! ### Beacon rows -/

section Beacon

variable (l : Fin 8) (s : State)

theorem keepsTable_reportStart (parityBit : Bool) (more : List BeaconChar) :
    KeepsTable s (execReportStart l parityBit more s) := by
  refine keepsTable_ite (fun _ => ?_) (fun _ => keepsTable_noEvent s)
  split
  case h_1 => exact keepsTable_view (tableView_setLine ..)
  all_goals exact keepsTable_noEvent s

theorem keepsTable_reportComplete (chars : List BeaconChar) : KeepsTable s (execReportComplete l chars s) := by
  unfold execReportComplete
  split
  case h_1 => exact keepsTable_view (tableView_reportEnded ..)
  case h_2 => exact keepsTable_view (tableView_setLine ..)
  all_goals exact keepsTable_noEvent s

theorem keepsTable_beaconLineIdle : KeepsTable s (execBeaconLineIdle l s) := by
  refine keepsTable_ite (fun _ => ?_) (fun _ => keepsTable_noEvent s)
  split
  · exact keepsTable_view (tableView_setLine ..)
  · exact keepsTable_view rfl
  · exact keepsTable_view (tableView_reportEnded ..)

theorem keepsTable_lineDrainComplete (how : ReportEnd) : KeepsTable s (execLineDrainComplete l how s) := by
  unfold execLineDrainComplete
  split
  · exact keepsTable_view (tableView_drainReport ..)
  · split
    · exact keepsTable_view (tableView_drainReport ..)
    · exact keepsTable_noEvent s
  · exact keepsTable_noEvent s

theorem keepsTable_lineControl (row : HandlerRow) (action : Nat) (act : Fin 8 → State → State × Status)
    (hact : ∀ j t, tableView (act j t).1 = tableView t) : KeepsTable s (request row (lineControl action act) s) := by
  refine keepsTable_request row _ (fun b t => tableKept_of_view ?_) s
  unfold lineControl
  split
  · rfl
  · split
    · rfl
    · exact hact _ t

end Beacon

/-- A report is handed to the request table in ACTIVE alone (R56). -/
theorem keepsTable_reportTake (s : State) : KeepsTable s (execReportTake s) := by
  unfold execReportTake
  split
  · exact keepsTable_noEvent s
  case h_2 l rep _ =>
    have htaken : tableView ({ s.setLine l { s.line l with buffer := none } with reportPointer := l }.count
        (.beacon l .reportsGood)) = tableView s :=
      (tableView_count _ _).trans rfl
    refine keepsTable_ite (fun hm => keepsTable_taken ((tableKept_of_view htaken).trans ?_))
      (fun _ => keepsTable_view htaken)
    exact tableKept_of_active (recordsKept_handReport _ rep) fun _ => hm

/-! ### Rows of records, evaluations and lockouts -/

section Records

variable (r : Fin 24) (s : State)

theorem keepsTable_etaExpiry : KeepsTable s (execEtaExpiry r s) := by
  unfold execEtaExpiry
  split
  · exact keepsTable_noEvent s
  case h_2 x hx =>
    refine keepsTable_taken (tableKept_of_active (recordsKept_write s r ?_) (active_of_record hx))
    exact continues_of_same hx rfl rfl rfl rfl

theorem keepsTable_lifetimeExpiry : KeepsTable s (execLifetimeExpiry r s) := by
  unfold execLifetimeExpiry
  split
  · exact keepsTable_noEvent s
  · exact keepsTable_taken (tableKept_removeRecord s r _ _)

theorem keepsTable_holdOffExpiry : KeepsTable s (execHoldOffExpiry r s) := by
  unfold execHoldOffExpiry
  split
  · exact keepsTable_noEvent s
  case h_2 x hx =>
    split
    · exact keepsTable_noEvent s
    · refine keepsTable_taken (TableKept.marked (tableKept_of_active (recordsKept_write s r ?_) (active_of_record hx)))
      exact continues_of_same hx rfl rfl rfl rfl

/-- An evaluation is taken in ACTIVE alone (R116). -/
theorem keepsTable_evaluation : KeepsTable s (execEvaluation s) := by
  refine keepsTable_ite (fun ⟨hm, _⟩ => keepsTable_taken (tableKept_of_active ?_ fun _ => hm))
    (fun _ => keepsTable_noEvent s)
  exact RecordsKept.trans (t := { s with evalDue := false }) (recordsKept_of_view rfl) (recordsKept_evaluate _)

theorem keepsTable_lockoutExpiry (ap : Fin 8) : KeepsTable s (execLockoutExpiry ap s) := by
  unfold execLockoutExpiry
  split
  · exact keepsTable_noEvent s
  · exact keepsTable_taken (tableKept_setLockout s ap).marked

end Records

/-! ### Phase-port rows -/

section Phase

variable (chars : List SerialChar) (k : Fin 4) (s : State)

theorem keepsTable_messageStart : KeepsTable s (execMessageStart chars s) := by
  unfold execMessageStart
  split
  · exact keepsTable_noEvent s
  · split
    case h_1 => exact keepsTable_view rfl
    all_goals exact keepsTable_noEvent s

theorem keepsTable_phases : KeepsTable s (execPhases chars s) := by
  unfold execPhases
  split
  · exact keepsTable_taken ((tableKept_validMessage s).view (tableView_setController _ _)).marked
  · exact keepsTable_noEvent s

/-- A message that acts on the slot of its call keeps what the act keeps (R144, R145). -/
theorem keepsTable_forCall (n : Nat) (act : Fin 4 → State → State) (hact : ∀ k t, RecordsKept t (act k t)) :
    KeepsTable s (taken (s.validMessage.forCall n act)) :=
  keepsTable_taken ((tableKept_validMessage s).trans (tableKept_forCall _ n act hact))

theorem keepsTable_accept : KeepsTable s (execAccept chars s) := by
  unfold execAccept
  split
  · exact keepsTable_forCall s _ _ fun k t => recordsKept_acceptFor t k
  · exact keepsTable_noEvent s

theorem keepsTable_start : KeepsTable s (execStart chars s) := by
  unfold execStart
  split
  · exact keepsTable_forCall s _ _ fun k t => recordsKept_startFor t k
  · exact keepsTable_noEvent s

theorem keepsTable_deny : KeepsTable s (execDeny chars s) := by
  unfold execDeny
  split
  · exact keepsTable_forCall s _ _ fun k t => recordsKept_denyFor t k _
  · exact keepsTable_noEvent s

theorem keepsTable_end : KeepsTable s (execEnd chars s) := by
  unfold execEnd
  split
  · exact keepsTable_forCall s _ _ fun k t => recordsKept_endFor t k _
  · exact keepsTable_noEvent s

theorem tableView_badMessage : tableView (s.messageDone.count (.controller .badMessages)) = tableView s :=
  (tableView_count _ _).trans rfl

theorem keepsTable_invalidMessage : KeepsTable s (execInvalidMessage chars s) := by
  unfold execInvalidMessage
  split
  · exact keepsTable_view (tableView_badMessage s)
  · exact keepsTable_noEvent s

theorem keepsTable_messageCutOff : KeepsTable s (execMessageCutOff s) := by
  unfold execMessageCutOff
  split
  · exact keepsTable_noEvent s
  · exact keepsTable_view (tableView_badMessage s)

theorem keepsTable_messageTxEnd : KeepsTable s (execMessageTxEnd s) := by
  unfold execMessageTxEnd
  split
  · exact keepsTable_noEvent s
  · exact keepsTable_view rfl

theorem keepsTable_readyLineChange (level : ReadyLevel) : KeepsTable s (execReadyLineChange level s) :=
  keepsTable_ite (fun _ => keepsTable_noEvent s)
    (fun _ => keepsTable_taken (TableKept.marked (tableKept_of_view (tableView_setController _ _))))

theorem keepsTable_phaseAgeExpiry : KeepsTable s (execPhaseAgeExpiry s) :=
  keepsTable_ite (fun _ => keepsTable_taken (TableKept.marked (tableKept_of_view (by simp))))
    (fun _ => keepsTable_noEvent s)

theorem keepsTable_responseTimeout : KeepsTable s (execResponseTimeout k s) := by
  refine keepsTable_ite (fun _ => ?_) (fun _ => keepsTable_noEvent s)
  split
  case h_1 hcalled =>
    have hkept := tableKept_of_active (recordsKept_closeReturning s k .timeout)
      (active_of_call (k := k) (by rw [hcalled]; exact nofun))
    exact keepsTable_taken (hkept.trans (tableKept_responseMissed _))
  case h_2 hclosing =>
    have hkept := tableKept_of_active (recordsKept_idleSlot s k)
      (active_of_call (k := k) (by rw [hclosing]; exact nofun))
    exact keepsTable_taken (hkept.trans (tableKept_responseMissed _))
  all_goals exact keepsTable_noEvent s

theorem keepsTable_startLimitExpiry : KeepsTable s (execStartLimitExpiry k s) :=
  keepsTable_ite
    (fun ⟨_, hgranted⟩ => keepsTable_taken (tableKept_of_active (recordsKept_closeReturning s k .startLimit)
      (active_of_call (k := k) (by rw [hgranted]; exact nofun))))
    (fun _ => keepsTable_noEvent s)

theorem keepsTable_serviceLimitExpiry : KeepsTable s (execServiceLimitExpiry k s) :=
  keepsTable_ite
    (fun ⟨_, hserving⟩ => keepsTable_taken (tableKept_of_active (recordsKept_closeReturning s k .serviceLimit)
      (active_of_call (k := k) (by rw [hserving]; exact nofun))))
    (fun _ => keepsTable_noEvent s)

end Phase

/-! ### Handler rows and resets -/

section Handler

variable (s : State)

theorem keepsTable_time : KeepsTable s (execTime s) := by
  unfold execTime
  split
  · exact keepsTable_noEvent s
  case h_2 x u htake =>
    have hview := tableView_takeHead htake
    split
    · exact keepsTable_view hview
    · exact keepsTable_view (Eq.trans (b := tableView u) rfl hview)

theorem keepsTable_noticeReceive : KeepsTable s (execNoticeReceive s) := by
  unfold execNoticeReceive
  split
  · exact keepsTable_noEvent s
  case h_2 htake =>
    exact keepsTable_taken ((tableKept_of_view (tableView_takeHead htake)).trans (tableKept_noticeFrameTaken _ _))

theorem keepsTable_unknownKind : KeepsTable s (execUnknownKind s) := by
  unfold execUnknownKind
  split
  · exact keepsTable_noEvent s
  case h_2 htake => exact keepsTable_view ((tableView_count _ _).trans (tableView_takeHead htake))

theorem keepsTable_reset (straps : BitVec 6) (level : ReadyLevel) : KeepsTable s (execPowerOn straps level s) := by
  rintro t ⟨⟩
  exact ⟨fun _ => recordsLawful_afterReset straps level _ _, fun _ => quiet_afterReset straps level _ _⟩

theorem identifyRequest_same (b : List Byte) : (identifyRequest b s).1 = s := by
  unfold identifyRequest
  split
  · rfl
  · split <;> rfl

theorem readTableRequest_same (b : List Byte) : (readTableRequest b s).1 = s := by
  unfold readTableRequest
  split
  · rfl
  · split <;> rfl

theorem verifyTableRequest_same (b : List Byte) : (verifyTableRequest b s).1 = s := by
  unfold verifyTableRequest
  split
  · rfl
  · dsimp only
    split <;> rfl

theorem readRecordsRequest_same (b : List Byte) : (readRecordsRequest b s).1 = s := by
  unfold readRecordsRequest
  split <;> rfl

theorem tableView_readCountersRequest (b : List Byte) : tableView (readCountersRequest b s).1 = tableView s := by
  unfold readCountersRequest
  split
  · rfl
  · split
    · rfl
    · dsimp only
      split <;> rfl

end Handler

/-- Every command keeps the records lawful, and quiet what is to be quiet. -/
theorem keepsTable_exec (c : Instr) (s : State) : KeepsTable s (exec c s) := by
  cases c with
  | powerOn straps level | resetPin straps level => exact keepsTable_reset s straps level
  | validFrame p chars => exact keepsTable_validFrame p s chars
  | crcError p chars => exact keepsTable_crcError p s chars
  | lengthError p chars => exact keepsTable_lengthError p s chars
  | corridorRxIdle p => exact keepsTable_corridorRxIdle p s
  | txStart p => exact keepsTable_txStart p s
  | frameTxEnd p => exact keepsTable_frameTxEnd p s
  | fillTimerExpiry p => exact keepsTable_fillTimerExpiry p s
  | holdTimerExpiry p => exact keepsTable_holdTimerExpiry p s
  | holdRepeatExpiry p => exact keepsTable_holdRepeatExpiry p s
  | silenceTimerExpiry p => exact keepsTable_silenceTimerExpiry p s
  | portDisable => exact keepsTable_portControl s _ 0 _ fun p t => tableView_disablePort t p
  | portEnable => exact keepsTable_portControl s _ 1 _ fun p t => tableView_enablePort t p
  | portReset => exact keepsTable_portControl s _ 2 _ fun p t => tableView_resetPort t p
  | drainComplete p => exact keepsTable_drainComplete p s
  | reportComplete l chars => exact keepsTable_reportComplete l s chars
  | beaconLineIdle l => exact keepsTable_beaconLineIdle l s
  | lineDisable => exact keepsTable_lineControl s _ 0 _ fun l t => tableView_disableLine t l
  | lineEnable => exact keepsTable_lineControl s _ 1 _ fun l t => tableView_enableLine t l
  | lineDrainComplete l how => exact keepsTable_lineDrainComplete l s how
  | reportTake => exact keepsTable_reportTake s
  | etaExpiry r => exact keepsTable_etaExpiry r s
  | lifetimeExpiry r => exact keepsTable_lifetimeExpiry r s
  | holdOffExpiry r => exact keepsTable_holdOffExpiry r s
  | evaluation => exact keepsTable_evaluation s
  | lockoutExpiry ap => exact keepsTable_lockoutExpiry s ap
  | readyLineChange level => exact keepsTable_readyLineChange s level
  | phases chars => exact keepsTable_phases chars s
  | accept chars => exact keepsTable_accept chars s
  | start chars => exact keepsTable_start chars s
  | deny chars => exact keepsTable_deny chars s
  | endService chars => exact keepsTable_end chars s
  | invalidMessage chars => exact keepsTable_invalidMessage chars s
  | messageCutOff => exact keepsTable_messageCutOff s
  | messageTxEnd => exact keepsTable_messageTxEnd s
  | phaseAgeExpiry => exact keepsTable_phaseAgeExpiry s
  | responseTimeout k => exact keepsTable_responseTimeout k s
  | startLimitExpiry k => exact keepsTable_startLimitExpiry k s
  | serviceLimitExpiry k => exact keepsTable_serviceLimitExpiry k s
  | time => exact keepsTable_time s
  | corridorTimeWrap => exact keepsTable_view (s := s) rfl
  | noticeReceive => exact keepsTable_noticeReceive s
  | unknownKind => exact keepsTable_unknownKind s
  | unknownRequest =>
    exact keepsTable_request_same .unknownRequest (fun _ t => (t, .plain .unknownRequest)) (fun _ _ => rfl) s
  | identify => exact keepsTable_request_same _ _ (fun b t => identifyRequest_same t b) s
  | readStatus => exact keepsTable_request_same .readStatus readStatusRequest (fun _ _ => rfl) s
  | readTable => exact keepsTable_request_same _ _ (fun b t => readTableRequest_same t b) s
  | writeEntry => exact keepsTable_request _ _ tableKept_writeEntryRequest s
  | verifyTable => exact keepsTable_request_same _ _ (fun b t => verifyTableRequest_same t b) s
  | readRecords => exact keepsTable_request_same _ _ (fun b t => readRecordsRequest_same t b) s
  | readSlots => exact keepsTable_request_same .readSlots readSlotsRequest (fun _ _ => rfl) s
  | withdraw => exact keepsTable_request _ _ tableKept_withdrawRequest s
  | readCounters =>
    exact keepsTable_request _ _ (fun b t => tableKept_of_view (tableView_readCountersRequest t b)) s
  | readAttention =>
    exact keepsTable_request .readAttention readAttentionRequest (fun _ _ => tableKept_of_view rfl) s
  | commission => exact keepsTable_request _ _ tableKept_commissionRequest s
  | decommission => exact keepsTable_request _ _ tableKept_decommissionRequest s
  | frameStart p more => exact keepsTable_frameStart p s more
  | reportStart l parityBit more => exact keepsTable_reportStart l s parityBit more
  | messageStart more => exact keepsTable_messageStart more s

/-! ### One tenth, and one step -/

/-- A tenth moves timers that run, and no stopped one; a record stays what it is but for its times. -/
theorem tableKept_countTenth (s : State) : TableKept s s.countTenth := by
  refine ⟨recordsLawful_of_continues fun r x hx => ?_, fun hs hm => ?_⟩
  · rw [record_countTenth] at hx
    obtain ⟨y, hy, rfl⟩ := Option.map_eq_some_iff.mp hx
    exact continues_of_same hy rfl rfl rfl rfl
  · obtain ⟨hrecord, hslot, hlockout, hmark⟩ := hs hm
    refine ⟨fun r => ?_, fun k => ⟨(hslot k).1, ?_⟩, fun ap => ?_, hmark⟩
    · rw [record_countTenth, hrecord]
      rfl
    · rw [slotTimer_countTenth, (hslot k).2]
      rfl
    · rw [lockout_countTenth, hlockout]
      rfl

theorem tableKept_idle (s : State) : TableKept s s.idle := by
  unfold State.idle
  split
  · have htenth := tableKept_countTenth s
    unfold State.tick
    generalize s.countTenth = t at htenth ⊢
    split <;> exact htenth.trans (tableKept_of_view rfl)
  · exact tableKept_of_view rfl

theorem tableKept_step {s t : State} (h : step s = .next t) : TableKept s t := by
  unfold step at h
  split at h
  · injection h with h
    rw [← h]
    exact tableKept_idle s
  case h_2 c rest _ =>
    exact TableKept.trans (t := { s with pending := rest }) (tableKept_of_view rfl) (keepsTable_exec c _ t h)

/-- Settles O58: each command writes records that continue those before, or creates one for a vehicle without any. -/
theorem recordsStayLawful : Obligations.RecordsStayLawful := fun _ _ hs h => (tableKept_step h).records hs

/-- Settles O59: outside ACTIVE a quiet state gives no command a record, call, lockout or mark to act on. -/
theorem quietOutsideActiveStays : Obligations.QuietOutsideActiveStays := fun _ _ hs h => (tableKept_step h).quiet hs

end Sys2Proof.RequestTable
end

section
/-! CHECK-INs, and the victim of a full table (R87 to R97). -/

namespace Sys2Proof.RequestTable

open Sys2Proof.Machine Sys2Proof.Safety Sys2Proof.Laws Sys2Proof.LoadedTables

/-! ### CHECK-IN (R87 to R94) -/

section CheckIn

variable {s : State} {rep : Report} {ap : Fin 8}

/-- A CHECK-IN for a vehicle without a record is judged as a new one. -/
theorem takeCheckIn_of_new (hnone : ∀ r : Fin 24, ∀ x ∈ s.record r, x.vehicle ≠ rep.vehicle) :
    s.takeCheckIn rep ap = (s.count (.approach ap .checkIns)).checkInNew rep ap := by
  simp only [State.takeCheckIn, findVehicle_count, (findVehicle_eq_none_iff s rep.vehicle).mpr hnone]

/-- A CHECK-IN that finds a record changes nothing when it is suspect. -/
theorem takeCheckIn_of_found {r : Fin 24} {x : Record} (hfind : s.findVehicle rep.vehicle = some r)
    (hx : s.record r = some x) :
    s.takeCheckIn rep ap =
      if rep.suspect then s.count (.approach ap .checkIns)
      else (s.count (.approach ap .checkIns)).checkInFound rep ap r x := by
  simp only [State.takeCheckIn, findVehicle_count, hfind, record_count, hx]

theorem checkInNew_of_refused (h : s.level rep.route rep.direction rep.lateness = none) :
    s.checkInNew rep ap = s.count (.approach ap .refused) := by
  simp only [State.checkInNew, h]

/-- The record a CHECK-IN with a level creates (R88, R89, R94). -/
def checkInRecord (s : State) (rep : Report) (ap : Fin 8) (level : Nat) : Record :=
  newRecord rep.vehicle rep.route rep.direction rep.lateness ap (if rep.suspect then .suspect else .confirmed) none level
    (checkInEta (s.approach ap) rep.nearside) (checkInEta (s.approach ap) rep.nearside + s.params.checkInGrace)
    s.corridorTime

theorem checkInNew_of_level {level : Nat} (h : s.level rep.route rep.direction rep.lateness = some level) :
    s.checkInNew rep ap = s.createOrDisplace (checkInRecord s rep ap level) := by
  simp only [State.checkInNew, h]
  rfl

theorem checkInRecord_count (ref : CounterRef) (level : Nat) :
    checkInRecord (s.count ref) rep ap level = checkInRecord s rep ap level := by
  simp only [checkInRecord, approach_count, count_params, count_corridorTime]

theorem createOrDisplace_of_free {r : Fin 24} (h : s.freeSlot = some r) (x : Record) :
    s.createOrDisplace x = (s.setRecord r (some x)).markDue := by
  simp only [State.createOrDisplace, h, State.createIn]

theorem checkInFound_of_member {r : Fin 24} {x : Record} (h : x.state ≠ .waiting) :
    s.checkInFound rep ap r x = s.setRecord r (some { x with lateness := rep.lateness, basis := .confirmed }) :=
  if_neg h

theorem checkInFound_of_refused {r : Fin 24} {x : Record} (hx : s.record r = some x) (h : x.state = .waiting)
    (hlevel : s.level rep.route rep.direction rep.lateness = none) :
    s.checkInFound rep ap r x = (s.setRecord r none).count (.approach x.approach .refused) := by
  simp only [State.checkInFound, if_pos h, hlevel, State.takeOut, hx]

theorem checkInFound_of_level {r : Fin 24} {x : Record} {level : Nat} (h : x.state = .waiting)
    (hlevel : s.level rep.route rep.direction rep.lateness = some level) :
    s.checkInFound rep ap r x = (s.setRecord r (some (s.refreshed x rep ap level))).markDue := by
  simp only [State.checkInFound, if_pos h, hlevel]

end CheckIn

/-- Settles O27: by whether the vehicle has a record, then by the level and the state of the record. -/
theorem checkInHandled : Obligations.CheckInHandled := by
  refine ⟨fun s rep ap hnone => ?_, fun s rep ap v hnone hfull hlevel => ?_, fun s rep ap r x hx hv honly => ?_⟩
  · intro u e eta
    refine ⟨fun hlevel => ?_, fun v r hlevel hfree hfirst => ?_⟩
    · rw [takeCheckIn_of_new hnone, checkInNew_of_refused ((level_count ..).trans hlevel)]
    · rw [takeCheckIn_of_new hnone, checkInNew_of_level ((level_count ..).trans hlevel), checkInRecord_count,
        createOrDisplace_of_free ((freeSlot_count ..).trans (freeSlot_of_first hfree hfirst))]
      rfl
  · intro e eta
    rw [takeCheckIn_of_new hnone, checkInNew_of_level ((level_count ..).trans hlevel), checkInRecord_count]
    rfl
  · intro u e eta z
    have hfind : s.findVehicle rep.vehicle = some r := hv ▸ findVehicle_of_only hx (hv ▸ honly)
    have hu : u.record r = some x := (record_count ..).trans hx
    have hlevel : u.level rep.route rep.direction rep.lateness = s.level rep.route rep.direction rep.lateness :=
      level_count ..
    have htake := takeCheckIn_of_found (ap := ap) hfind hx
    have hrefreshed (v : Nat) : u.refreshed x rep ap v = if x.approach = ap then z v else
        { z v with approach := ap, retry := 0, holdOff := none,
                   excluded := { extend := false, early := false, jump := false } } := by
      simp only [State.refreshed, checkInEta, u, approach_count, count_params]
      rfl
    refine ⟨fun hs => htake.trans (if_pos hs), fun hs hst => ?_, fun hs hst hnone => ?_, fun v hs hst hv hap => ?_,
      fun v hs hst hv hap => ?_⟩ <;> rw [htake, if_neg (by rw [hs]; decide)]
    · exact checkInFound_of_member hst
    · exact checkInFound_of_refused hu hst (hlevel.trans hnone)
    · rw [checkInFound_of_level hst (hlevel.trans hv), hrefreshed, if_pos hap]
    · rw [checkInFound_of_level hst (hlevel.trans hv), hrefreshed, if_neg hap]

/-! ### The victim of a full table (R96) -/

/-- In an ascending list the best slot is the one that beats every slot before it and is beaten by none after it. -/
theorem bestOf_eq_some {beats : Fin 24 → Fin 24 → Bool} {r : Fin 24} {rs : List (Fin 24)} (hsorted : rs.Pairwise (· < ·))
    (hr : r ∈ rs) (hbefore : ∀ q ∈ rs, q < r → beats r q = true) (hafter : ∀ q ∈ rs, r < q → beats q r = false) :
    bestOf beats rs = some r := by
  induction rs with
  | nil => exact nomatch hr
  | cons p rest ih =>
    obtain ⟨hp, hrest⟩ := List.pairwise_cons.mp hsorted
    unfold bestOf
    rcases List.mem_cons.mp hr with rfl | hmem
    · split
      · rfl
      case h_2 b hb => rw [hafter b (List.mem_cons_of_mem r (bestOf_mem hb)) (hp b (bestOf_mem hb)), if_neg nofun]
    · rw [ih hrest hmem (fun q hq => hbefore q (List.mem_cons_of_mem p hq))
        fun q hq => hafter q (List.mem_cons_of_mem p hq)]
      exact if_pos (hbefore p List.mem_cons_self (hp r hmem))

theorem waitingWith_iff (s : State) (p : Record → Bool) (r : Fin 24) :
    s.waitingWith p r = true ↔ ∃ x, s.record r = some x ∧ x.state = .waiting ∧ p x = true := by
  simp [State.waitingWith, Option.any_eq_true]

section Victim

variable {s : State} (p : Record → Bool) {beats : Fin 24 → Fin 24 → Bool}

/-- The best of the slots with a property, by what holds of the records in them. -/
theorem bestOf_waiting {r : Fin 24} {y : Record} (hy : s.record r = some y) (hw : y.state = .waiting) (hp : p y = true)
    (hbefore : ∀ q z, s.record q = some z → z.state = .waiting → p z = true → q < r → beats r q = true)
    (hafter : ∀ q z, s.record q = some z → z.state = .waiting → p z = true → r < q → beats q r = false) :
    bestOf beats (recordSlots.filter (s.waitingWith p)) = some r := by
  have hmem {q : Fin 24} (hq : q ∈ recordSlots.filter (s.waitingWith p)) :
      ∃ z, s.record q = some z ∧ z.state = .waiting ∧ p z = true :=
    (waitingWith_iff s p q).mp (List.mem_filter.mp hq).2
  refine bestOf_eq_some ((List.pairwise_lt_finRange 24).filter _) ?_ (fun q hq hlt => ?_) (fun q hq hlt => ?_)
  · exact List.mem_filter.mpr ⟨List.mem_finRange r, (waitingWith_iff s p r).mpr ⟨y, hy, hw, hp⟩⟩
  · obtain ⟨z, hz, hzw, hzp⟩ := hmem hq
    exact hbefore q z hz hzw hzp hlt
  · obtain ⟨z, hz, hzw, hzp⟩ := hmem hq
    exact hafter q z hz hzw hzp hlt

theorem bestOf_waiting_none (h : ∀ q z, s.record q = some z → z.state = .waiting → p z = false) :
    bestOf beats (recordSlots.filter (s.waitingWith p)) = none := by
  have hnil : recordSlots.filter (s.waitingWith p) = [] := by
    refine List.filter_eq_nil_iff.mpr fun q _ hq => ?_
    obtain ⟨z, hz, hw, hp⟩ := (waitingWith_iff s p q).mp hq
    exact nomatch hp.symm.trans (h q z hz hw)
  rw [hnil]
  rfl

end Victim

section FullTable

variable {s : State}

/-- Step 1 of the choice: the WAITING FORECAST record of least lifetime, the lower slot of equals. -/
theorem victim_of_forecast {r : Fin 24} {y : Record} (level : Nat) (hy : s.record r = some y)
    (hforecast : y.state = .waiting ∧ y.basis = .forecast)
    (hleast : ∀ q : Fin 24, ∀ z ∈ s.record q, z.state = .waiting ∧ z.basis = .forecast →
      y.lifetime < z.lifetime ∨ (y.lifetime = z.lifetime ∧ r ≤ q)) : s.victim level = some r := by
  have hbest : bestOf s.sooner (recordSlots.filter (s.waitingWith (fun x => x.basis = .forecast))) = some r := by
    refine bestOf_waiting _ hy hforecast.1 (decide_eq_true hforecast.2) (fun q z hz hw hp hlt => ?_)
      (fun q z hz hw hp hlt => ?_) <;> have hqz := hleast q z hz ⟨hw, of_decide_eq_true hp⟩
    · simp only [State.sooner, hy, hz, decide_eq_true_eq]
      omega
    · simp only [State.sooner, hy, hz, decide_eq_false_iff_not]
      omega
  rw [State.victim, hbest]

/-- Step 2 of the choice: the WAITING record of lowest level below the newcomer's, of equals the largest ETA, of equals the
higher slot. -/
theorem victim_of_lower {r : Fin 24} {y : Record} {level : Nat} (hy : s.record r = some y)
    (hlower : y.state = .waiting ∧ y.level < level)
    (hnone : ∀ q : Fin 24, ∀ z ∈ s.record q, ¬ (z.state = .waiting ∧ z.basis = .forecast))
    (hleast : ∀ q : Fin 24, ∀ z ∈ s.record q, z.state = .waiting ∧ z.level < level →
      y.level < z.level ∨ (y.level = z.level ∧ (z.eta < y.eta ∨ (z.eta = y.eta ∧ q ≤ r)))) :
    s.victim level = some r := by
  have hbest : bestOf s.lesser (recordSlots.filter (s.waitingWith (fun x => x.level < level))) = some r := by
    refine bestOf_waiting _ hy hlower.1 (decide_eq_true hlower.2) (fun q z hz hw hp hlt => ?_)
      (fun q z hz hw hp hlt => ?_) <;> have hqz := hleast q z hz ⟨hw, of_decide_eq_true hp⟩
    · simp only [State.lesser, hy, hz, Bool.or_eq_true, Bool.and_eq_true, decide_eq_true_eq]
      omega
    · simp only [State.lesser, hy, hz, Bool.or_eq_false_iff, Bool.and_eq_false_imp, decide_eq_true_eq,
        decide_eq_false_iff_not]
      omega
  rw [State.victim, bestOf_waiting_none _ fun q z hz hw => decide_eq_false fun hb => hnone q z hz ⟨hw, hb⟩]
  exact hbest

theorem victim_of_none {level : Nat}
    (h : ∀ q : Fin 24, ∀ z ∈ s.record q,
      ¬ (z.state = .waiting ∧ z.basis = .forecast) ∧ ¬ (z.state = .waiting ∧ z.level < level)) :
    s.victim level = none := by
  rw [State.victim, bestOf_waiting_none _ fun q z hz hw => decide_eq_false fun hb => (h q z hz).1 ⟨hw, hb⟩]
  exact bestOf_waiting_none _ fun q z hz hw => decide_eq_false fun hl => (h q z hz).2 ⟨hw, hl⟩

/-- A victim's slot takes the newcomer's record, the victim counted DISPLACED (R96). -/
theorem createOrDisplace_of_victim (hfull : s.freeSlot = none) {x : Record} {r : Fin 24} {y : Record}
    (h : s.victim x.level = some r) (hy : s.record r = some y) :
    s.createOrDisplace x =
      (((s.setRecord r none).count (.approach y.approach .displaced)).setRecord r (some x)).markDue := by
  simp only [State.createOrDisplace, hfull, h, State.takeOut, hy, State.createIn]

end FullTable

/-- Settles O28: the two steps of the choice, each a least of the slots it weighs. -/
theorem fullTableVictim : Obligations.FullTableVictim := by
  intro s x hfull forecast lower displaced
  have hno := freeSlot_of_full hfull
  refine ⟨fun r y hy hforecast hleast => ?_, fun r y hy hlower hnone hleast => ?_, fun hneither => ?_⟩
  · exact createOrDisplace_of_victim hno (victim_of_forecast x.level hy hforecast hleast) hy
  · exact createOrDisplace_of_victim hno (victim_of_lower hy hlower hnone hleast) hy
  · simp only [State.createOrDisplace, hno, victim_of_none hneither, State.dropFull]

end Sys2Proof.RequestTable
end

section
/-! Records removed: by a CHECK-OUT, a CANCEL, a WITHDRAW or an expiry, and what a removal leaves of the call slot (R98 to
R106, R109, R129, R130, R183). -/

namespace Sys2Proof.RequestTable

open Sys2Proof.Machine Sys2Proof.Safety Sys2Proof.Laws Sys2Proof.LoadedTables

/-! ### CHECK-OUT and CANCEL (R98 to R101) -/

theorem removeCheckedOut_of_none {s : State} {v : Nat} (h : s.findVehicle v = none) : s.removeCheckedOut v = s := by
  simp only [State.removeCheckedOut, h]

theorem removeCheckedOut_of_found {s : State} {v : Nat} {r : Fin 24} {x : Record} (h : s.findVehicle v = some r)
    (hx : s.record r = some x) : s.removeCheckedOut v = s.removeRecord r (checkOutOutcome x.state) .checkout := by
  simp only [State.removeCheckedOut, h, hx]

theorem takeCancel_of_suspect {s : State} {rep : Report} (h : rep.suspect = true) : s.takeCancel rep = s := if_pos h

theorem takeCancel_of_none {s : State} {rep : Report} (h : s.findVehicle rep.vehicle = none) :
    s.takeCancel rep = s := by
  simp only [State.takeCancel, h, ite_self]

theorem takeCancel_of_found {s : State} {rep : Report} {r : Fin 24} (hclean : rep.suspect = false)
    (h : s.findVehicle rep.vehicle = some r) : s.takeCancel rep = s.removeRecord r .withdrawn .withdraw := by
  simp [State.takeCancel, h, hclean]

/-! ### WITHDRAW (R183) -/

theorem withdrawRequest_bad {b : List Byte} {s : State} (h : b.length < 3 ∨ word16At b 1 = 0) :
    withdrawRequest b s = (s, .plain .badArg) := if_pos h

theorem withdrawRequest_of_none {b : List Byte} {s : State} (hlen : 3 ≤ b.length) (hv : word16At b 1 ≠ 0)
    (h : s.findVehicle (word16At b 1) = none) : withdrawRequest b s = (s, .plain .notFound) := by
  rw [withdrawRequest, if_neg (not_or.mpr ⟨Nat.not_lt.mpr hlen, hv⟩), h]

theorem withdrawRequest_of_found {b : List Byte} {s : State} {r : Fin 24} (hlen : 3 ≤ b.length)
    (hv : word16At b 1 ≠ 0) (h : s.findVehicle (word16At b 1) = some r) :
    withdrawRequest b s = (s.removeRecord r .withdrawn .withdraw, .plain .done) := by
  rw [withdrawRequest, if_neg (not_or.mpr ⟨Nat.not_lt.mpr hlen, hv⟩), h]

theorem findVehicle_afterTake (s : State) (rest : List InboundFrame) (v : Nat) :
    (afterTake s rest).findVehicle v = s.findVehicle v := rfl

/-- Settles O29: by the record that the search for the vehicle finds, and its state. -/
theorem checkOutCancelWithdraw : Obligations.CheckOutCancelWithdraw := by
  refine ⟨fun s rep ap => ?_, fun s x rest hhead => ?_⟩
  · intro u notice
    have hout : s.takeCheckOut rep ap = notice (u.removeCheckedOut rep.vehicle) := rfl
    refine ⟨fun hnone => ?_, takeCancel_of_suspect, fun r x hx hv honly => ?_⟩
    · have hfind := (findVehicle_eq_none_iff s rep.vehicle).mpr hnone
      exact ⟨hout.trans (congrArg notice (removeCheckedOut_of_none ((findVehicle_count ..).trans hfind))),
        takeCancel_of_none hfind⟩
    · have hfind : s.findVehicle rep.vehicle = some r := hv ▸ findVehicle_of_only hx (hv ▸ honly)
      have hremoved := removeCheckedOut_of_found (s := u) ((findVehicle_count ..).trans hfind)
        ((record_count ..).trans hx)
      refine ⟨fun hst => ?_, fun hst => ?_, fun hclean => takeCancel_of_found hclean hfind⟩
      · rw [hout, hremoved, checkOutOutcome, if_pos hst]
      · rw [hout, hremoved, checkOutOutcome, if_neg hst]
  · intro u b
    refine ⟨fun hlen hv hnone => ?_, fun r y hlen hy hyv hv hfirst => ?_, fun hbad => ?_⟩
    · exact request_of_code hhead rfl (withdrawRequest_of_none hlen hv ((findVehicle_eq_none_iff s _).mpr hnone))
    · have hfind : s.findVehicle (word16At b 1) = some r := hyv ▸ findVehicle_of_first hy (hyv ▸ hfirst)
      exact request_of_code hhead rfl (withdrawRequest_of_found hlen (hyv ▸ hv) hfind)
    · exact request_of_code hhead rfl (withdrawRequest_bad hbad)

/-! ### A removal and its call slot (R109, R129, R130) -/

@[simp] theorem slot_count (s : State) (ref : CounterRef) (k : Fin 4) : (s.count ref).slot k = s.slot k :=
  slot_of_view (slotView_count s ref) k

section Removal

variable {s : State} {r : Fin 24} {x : Record} (hx : s.record r = some x) (outcome : ApproachCounter) (cause : CloseCause)

include hx

theorem takeOut_of_record :
    s.takeOut r outcome = (s.setRecord r none).count (.approach x.approach outcome) := by
  simp only [State.takeOut, hx]

theorem removeRecord_of_unlinked (h : x.callSlot = none) :
    s.removeRecord r outcome cause = (s.setRecord r none).count (.approach x.approach outcome) := by
  simp only [State.removeRecord, hx, h, takeOut_of_record hx]

theorem removeRecord_of_member {k : Fin 4} (h : x.callSlot = some k) :
    s.removeRecord r outcome cause =
      ((s.setRecord r none).count (.approach x.approach outcome)).leaveSlot k r cause := by
  simp only [State.removeRecord, hx, h, takeOut_of_record hx]

end Removal

theorem leaveSlot_of_others {s : State} {k : Fin 4} {r : Fin 24} (cause : CloseCause)
    (h : (s.slot k).members.filter (fun m => m ≠ r) ≠ []) :
    s.leaveSlot k r cause =
      s.setSlot k { s.slot k with members := (s.slot k).members.filter (fun m => m ≠ r) } :=
  if_neg fun hlast => h (List.isEmpty_iff.mp hlast.1)

theorem leaveSlot_of_last {s : State} {k : Fin 4} {r : Fin 24} (cause : CloseCause)
    (h : (s.slot k).members.filter (fun m => m ≠ r) = []) (hopen : (s.slot k).state.isOpen = true) :
    s.leaveSlot k r cause = s.closeSlot k cause :=
  if_pos ⟨List.isEmpty_iff.mpr h, hopen⟩

/-- A slot's closing, whole: its fields, what gives its call up, and its RESPONSE timer (R127, R130, R153). -/
theorem closeSlot_eq (s : State) (k : Fin 4) (cause : CloseCause) :
    s.closeSlot k cause = State.markDue
      { s with
        slots := s.slots.set k (closed (s.slot k) cause)
        output := s.output ++
          [{ kind := if (s.slot k).state = .serving then .release else .cancel, call := (s.slot k).call.getD 0
             group := ((s.slot k).approach.map (fun ap => (s.approach ap).phaseGroup)).getD 0, code := none
             duration := 0 }]
        slotTimers := s.slotTimers.set k (some { kind := .response, left := s.params.responseTimeout }) } := by
  rw [← closeSlot_output s k cause, ← closeSlot_slots, ← closeSlot_slotTimers]
  unfold State.closeSlot
  dsimp only
  rw [markDue_slots, markDue_output, markDue_slotTimers]
  rfl

/-- Settles O30: a removal by the slot its record names, and each record timer by the record it runs on. -/
theorem removalAndRecordTimers : Obligations.RemovalAndRecordTimers := by
  refine ⟨fun s r x outcome cause hx => ?_, fun s r x hx => ⟨?_, ?_, fun hhold => ?_⟩⟩
  · intro u
    refine ⟨removeRecord_of_unlinked hx outcome cause, fun k hk => ?_⟩
    intro y others
    have hy : u.slot k = y := slot_count _ _ k
    have hremoved := removeRecord_of_member hx outcome cause hk
    refine ⟨fun hsome => ?_, fun hnone hopen => ?_, fun _ => ?_⟩
    · rw [hremoved, leaveSlot_of_others cause (by rwa [hy]), hy]
    · exact hremoved.trans (leaveSlot_of_last cause (by rwa [hy]) (by rwa [hy]))
    · intro closing giveUp response
      have happroach (ap : Fin 8) : u.approach ap = s.approach ap := approach_count _ _ ap
      have hparams : u.params = s.params := count_params _ _
      rw [closeSlot_eq, hy, hparams]
      simp only [happroach]
      rfl
  · simp only [exec, execEtaExpiry, hx, taken]
  · simp only [exec, execLifetimeExpiry, hx, taken]
  · obtain ⟨n, hn⟩ := Option.isSome_iff_exists.mp hhold
    simp only [exec, execHoldOffExpiry, hx, hn, taken]

end Sys2Proof.RequestTable
end

section
/-! NOTICE_RECEIVE: how a NOTICE is read and mapped, and what it does to the request table (R102, R103, R167 to R170). -/

namespace Sys2Proof.RequestTable

open Sys2Proof.Machine Sys2Proof.Safety Sys2Proof.Laws Sys2Proof.LoadedTables

/-! ### The frame (R10, R168) -/

/-- What the fields of a NOTICE carry, in range or not. -/
def noticeFields (f : LinkFrame) : NoticeArrival :=
  { vehicle := word16At f.body 0, route := word16At f.body 2 / 4, direction := decide (word16At f.body 2 / 2 % 2 = 1)
    lateness := if byteAt f.body 4 = 128 then none else some (BitVec.ofNat 8 (byteAt f.body 4)).toInt
    travel := word16At f.body 5, upstream := f.source.toNat % 64 }

/-- A NOTICE whose fields are in range (R168). -/
def NoticeValid (f : LinkFrame) : Prop :=
  7 ≤ f.body.length ∧ word16At f.body 0 ≠ 0 ∧ 1 ≤ word16At f.body 2 / 4 ∧ word16At f.body 2 / 4 ≤ 9999 ∧
    50 ≤ word16At f.body 5 ∧ word16At f.body 5 ≤ 3000

theorem readNotice_of_valid {f : LinkFrame} (h : NoticeValid f) : readNotice f = some (noticeFields f) := by
  obtain ⟨hlen, hv, hlow, hhigh, hnear, hfar⟩ := h
  unfold readNotice
  dsimp only
  rw [if_neg]
  · rfl
  · unfold routeNumber
    omega

theorem readNotice_of_invalid {f : LinkFrame} (h : ¬ NoticeValid f) : readNotice f = none := by
  unfold NoticeValid at h
  unfold readNotice
  dsimp only
  rw [if_pos]
  unfold routeNumber
  omega

theorem readNotice_upstream {f : LinkFrame} {n : NoticeArrival} (h : readNotice f = some n) :
    n.upstream = f.source.toNat % 64 := by
  by_cases hvalid : NoticeValid f
  · rw [readNotice_of_valid hvalid] at h
    obtain rfl := Option.some.inj h
    rfl
  · rw [readNotice_of_invalid hvalid] at h
    exact nomatch h

/-! ### The map (R169) -/

theorem mappedApproach_of_none {s : State} {source : Nat}
    (h : ∀ q ∈ s.params.noticeMap, q.1 = source → (s.approach q.2).inUse = false) : s.mappedApproach source = none := by
  unfold State.mappedApproach
  split
  · rfl
  case h_2 q hq =>
    have hsource : q.1 = source := by simpa using List.find?_some hq
    rw [h q (List.mem_of_find?_eq_some hq) hsource]
    rfl

theorem mappedApproach_of_found {s : State} {source : Nat} {ap : Fin 8}
    (h : s.params.noticeMap.find? (fun q => q.1 = source) = some (source, ap)) (huse : (s.approach ap).inUse = true) :
    s.mappedApproach source = some ap := by
  simp only [State.mappedApproach, h, huse, if_true]

/-! ### The event (R167, R170) -/

section Taken

variable {s : State} {f : LinkFrame}

theorem noticeFrameTaken_of_discarded (h : s.mode ≠ .active) : s.noticeFrameTaken f = s := if_neg h

theorem noticeFrameTaken_of_invalid (hm : s.mode = .active) (h : ¬ NoticeValid f) :
    s.noticeFrameTaken f = s.count (.notice .noticesUnmapped) := by
  rw [State.noticeFrameTaken, if_pos hm, readNotice_of_invalid h]

/-- A NOTICE from a source that names no in-use approach is counted unmapped, valid or not. -/
theorem noticeFrameTaken_of_unmapped (hm : s.mode = .active) (h : s.mappedApproach (f.source.toNat % 64) = none) :
    s.noticeFrameTaken f = s.count (.notice .noticesUnmapped) := by
  rw [State.noticeFrameTaken, if_pos hm]
  cases hread : readNotice f with
  | none => rfl
  | some n => simp only [readNotice_upstream hread, h]

theorem noticeFrameTaken_of_mapped {ap : Fin 8} (hm : s.mode = .active) (hvalid : NoticeValid f)
    (h : s.mappedApproach (f.source.toNat % 64) = some ap) :
    s.noticeFrameTaken f = s.takeNotice (noticeFields f) ap := by
  rw [State.noticeFrameTaken, if_pos hm, readNotice_of_valid hvalid]
  simp only [noticeFields, h]

theorem exec_noticeReceive {x : InboundFrame} {rest : List InboundFrame} (hhead : s.inbound = x :: rest)
    (hkind : x.frame.kind = 0x04) :
    exec .noticeReceive s = .next ((afterTake s rest).noticeFrameTaken x.frame).endEvent := by
  have hrow : rowOf x.frame = .notice := by
    rw [rowOf, hkind]
    rfl
  change execNoticeReceive s = _
  rw [execNoticeReceive, takeHead_of_head s .notice x rest hhead hrow]
  rfl

end Taken

/-! ### The request table (R102, R103) -/

section Table

variable {s : State} {n : NoticeArrival} {ap : Fin 8}

theorem takeNotice_of_new (hnone : ∀ r : Fin 24, ∀ y ∈ s.record r, y.vehicle ≠ n.vehicle) :
    s.takeNotice n ap = (s.count (.approach ap .noticesIn)).noticeNew n ap := by
  simp only [State.takeNotice, findVehicle_count, (findVehicle_eq_none_iff s n.vehicle).mpr hnone]

theorem takeNotice_of_found {r : Fin 24} {y : Record} (hy : s.record r = some y)
    (hfind : s.findVehicle n.vehicle = some r) :
    s.takeNotice n ap = (s.count (.approach ap .noticesIn)).noticeFound n r y := by
  simp only [State.takeNotice, findVehicle_count, hfind, record_count, hy]

theorem noticeNew_of_refused (h : s.level n.route n.direction n.lateness = none) :
    s.noticeNew n ap = s.count (.approach ap .refused) := by
  simp only [State.noticeNew, h]

theorem noticeNew_of_full {level : Nat} (h : s.level n.route n.direction n.lateness = some level)
    (hfull : s.freeSlot = none) : s.noticeNew n ap = s.dropFull := by
  simp only [State.noticeNew, h, hfull]

theorem noticeNew_of_free {level : Nat} {r : Fin 24} (h : s.level n.route n.direction n.lateness = some level)
    (hfree : s.freeSlot = some r) :
    s.noticeNew n ap = (s.setRecord r (some (newRecord n.vehicle n.route n.direction n.lateness ap .forecast
      (some n.upstream) level n.travel (n.travel + s.params.noticeGrace) s.corridorTime))).markDue := by
  simp only [State.noticeNew, h, hfree, State.createIn]

end Table

/-- Settles O32: by the mode, the fields, the map, and the record of the vehicle. -/
theorem noticeTaken : Obligations.NoticeTaken := by
  intro s x rest hhead hkind u b vehicle route direction late travel source valid
  have hexec {t : State} (h : u.noticeFrameTaken x.frame = t) : exec .noticeReceive s = .next t.endEvent := by
    rw [exec_noticeReceive hhead hkind, ← h]
  refine ⟨fun hm => hexec (noticeFrameTaken_of_discarded hm), fun hm hbad => hexec (noticeFrameTaken_of_invalid hm hbad),
    fun hm hmap => hexec (noticeFrameTaken_of_unmapped hm (mappedApproach_of_none hmap)), fun ap hm hvalid hmap huse => ?_⟩
  intro v
  have htake : u.noticeFrameTaken x.frame = u.takeNotice (noticeFields x.frame) ap :=
    noticeFrameTaken_of_mapped hm hvalid (mappedApproach_of_found hmap huse)
  have hlevel : v.level route direction late = s.level route direction late := level_count u ..
  refine ⟨fun hnone => ?_, fun r y hy hyv honly => ?_⟩
  · have hnew : u.noticeFrameTaken x.frame = v.noticeNew (noticeFields x.frame) ap :=
      htake.trans (takeNotice_of_new hnone)
    refine ⟨fun hrefused => hexec ?_, fun n hn hfull => hexec ?_, fun n r hn hfree hfirst => hexec ?_⟩
    · exact hnew.trans (noticeNew_of_refused (hlevel.trans hrefused))
    · exact hnew.trans (noticeNew_of_full (hlevel.trans hn) ((freeSlot_count u _).trans (freeSlot_of_full hfull)))
    · have hslot : v.freeSlot = some r := (freeSlot_count u _).trans (freeSlot_of_first hfree hfirst)
      rw [hnew, noticeNew_of_free (hlevel.trans hn) hslot, count_params, count_corridorTime]
      rfl
  · have hfind : u.findVehicle vehicle = some r := hyv ▸ findVehicle_of_only (s := u) hy (hyv ▸ honly)
    have hfound : u.noticeFrameTaken x.frame = v.noticeFound (noticeFields x.frame) r y :=
      htake.trans (takeNotice_of_found hy hfind)
    exact ⟨fun hsuspect => hexec (hfound.trans (if_pos hsuspect)), fun hother => hexec (hfound.trans (if_neg hother))⟩

end Sys2Proof.RequestTable
end

section
/-! Call slots that advance or go to IDLE at a controller's message, and their members with them (R85, R106, R108, R132, R137,
R144 to R151). -/

namespace Sys2Proof.RequestTable

open Sys2Proof.Machine Sys2Proof.Safety Sys2Proof.Laws Sys2Proof.LoadedTables

/-! ### A slot that goes to IDLE (R132) -/

/-- A slot set to IDLE with its timer stopped, an evaluation event. -/
def idled (s : State) (k : Fin 4) : State := ((s.setSlot k .idle).setSlotTimer k none).markDue

theorem idleSlot_of_unserved {s : State} {k : Fin 4} (h : (s.slot k).wasServing = false) :
    s.idleSlot k = idled s k := by
  simp only [State.idleSlot, h, idled]

theorem idleSlot_of_served {s : State} {k : Fin 4} {ap : Fin 8} (h : (s.slot k).wasServing = true)
    (hap : (s.slot k).approach = some ap) : s.idleSlot k = idled (s.startLockout ap) k := by
  simp only [State.idleSlot, h, hap, idled]

/-! ### Members that return (R106, R108, R137) -/

theorem returnMember_of_free {s : State} {r : Fin 24} (h : s.record r = none) (holdOff : Option Nat)
    (exclude : Option ServiceKind) : s.returnMember holdOff exclude r = s := by
  simp only [State.returnMember, h]

section Return

variable {s : State} {r : Fin 24} {x : Record} (hx : s.record r = some x) (holdOff : Option Nat)
  (exclude : Option ServiceKind)

include hx

theorem returnMember_of_abandoned (h : Config.retryLimit ≤ x.retry + 1) :
    s.returnMember holdOff exclude r = (s.setRecord r none).count (.approach x.approach .abandoned) := by
  simp only [State.returnMember, hx, if_pos h]

theorem returnMember_of_kept (h : ¬ Config.retryLimit ≤ x.retry + 1) :
    s.returnMember holdOff exclude r = s.setRecord r (some
      { x with
        state := .waiting, callSlot := none, retry := x.retry + 1
        excluded := match exclude with
          | none => x.excluded
          | some kind => x.excluded.add kind
        holdOff := match holdOff with
          | none => x.holdOff
          | some v => if v = 0 then none else some v }) := by
  simp only [State.returnMember, hx, if_neg h] <;> rfl

end Return

/-- Settles O41: by whether the slot was serving, and each member by its retry count. -/
theorem slotIdlesAndMembersReturn : Obligations.SlotIdlesAndMembersReturn := by
  refine ⟨fun s k => ?_, fun s holdOff exclude r ms => ?_, fun s holdOff exclude r x hx => ?_⟩
  · intro x cleared
    refine ⟨idleSlot_of_unserved, fun ap hserved hap hlockout => ?_, fun ap hserved hap hlockout => ?_⟩
    · rw [idleSlot_of_served hserved hap, State.startLockout]
      rw [if_neg hlockout]
      rfl
    · rw [idleSlot_of_served hserved hap, State.startLockout]
      rw [if_pos hlockout]
      rfl
  · exact ⟨rfl, rfl, fun hfree => returnMember_of_free hfree holdOff exclude⟩
  · intro y
    refine ⟨fun htwice => returnMember_of_abandoned hx holdOff exclude (Nat.succ_le_succ htwice), fun hfew => ?_⟩
    refine ⟨_, returnMember_of_kept hx holdOff exclude (Nat.not_le.mpr (Nat.succ_lt_succ hfew)), rfl, ?_, ?_⟩
    · cases exclude <;> rfl
    · rcases holdOff with _ | _ | n <;> rfl

/-! ### Slots that advance (R85) -/

theorem memberStates_frame (st : RecordState) (ms : List (Fin 24)) (s : State) :
    forEach ms (memberMoved st) s = { s with records := (forEach ms (memberMoved st) s).records } := by
  refine forEach_keeps (P := fun t => t = { s with records := t.records }) _ (fun r t ht => ?_) ms rfl
  unfold memberMoved
  split
  · exact ht
  · rw [ht]
    rfl

theorem advanceSlot_frame (s : State) (k : Fin 4) (st : SlotState) :
    s.advanceSlot k st =
      { s with slots := s.slots.set k { s.slot k with state := st }, records := (s.advanceSlot k st).records
               evalDue := s.markDue.evalDue } := by
  rw [advanceSlot_eq]
  have hframe := memberStates_frame st.memberState (s.slot k).members (s.setSlot k { s.slot k with state := st })
  generalize forEach (s.slot k).members (memberMoved st.memberState) _ = t at hframe ⊢
  rw [markDue_records, hframe]
  by_cases hm : s.mode = .active
  · simp only [State.markDue, setSlot_mode, hm, if_true]
    rfl
  · simp only [State.markDue, setSlot_mode, hm, if_false]
    rfl

theorem record_advanceSlot (s : State) (k : Fin 4) (st : SlotState) (r : Fin 24) :
    (s.advanceSlot k st).record r =
      if r ∈ (s.slot k).members then (s.record r).map (fun x => { x with state := st.memberState }) else s.record r := by
  rw [advanceSlot_eq, record_of_view (callView_markDue _), record_memberStates, record_setSlot]

/-! ### Messages for the slot of a call (R144, R145) -/

theorem forCall_of_held {s : State} {n : Nat} {k : Fin 4} (h : s.slotOfCall n = some k) (act : Fin 4 → State → State) :
    s.validMessage.forCall n act = act k s.validMessage := by
  have hsame : s.validMessage.slotOfCall n = s.slotOfCall n := by
    simp only [State.slotOfCall, slot_of_view (slotView_of_view (callView_validMessage s))]
  simp only [State.forCall, hsame, h]

@[simp] theorem slot_validMessage (s : State) (k : Fin 4) : s.validMessage.slot k = s.slot k :=
  slot_of_view (slotView_of_view (callView_validMessage s)) k

@[simp] theorem params_validMessage (s : State) : s.validMessage.params = s.params := by
  unfold State.validMessage State.heard
  dsimp only
  split
  · exact markDue_params _
  · rfl

section Messages

variable {s : State} {chars : List SerialChar} {n : Nat} {k : Fin 4} (hk : s.slotOfCall n = some k)

include hk

theorem exec_accept_of_held (h : s.messageFrom chars = some (.accept n)) :
    exec (.accept chars) s = .next (s.validMessage.acceptFor k).endEvent := by
  simp only [exec, execAccept, h, forCall_of_held hk, taken]

theorem exec_start_of_held (h : s.messageFrom chars = some (.start n)) :
    exec (.start chars) s = .next (s.validMessage.startFor k).endEvent := by
  simp only [exec, execStart, h, forCall_of_held hk, taken]

theorem exec_deny_of_held {reason : DenyReason} (h : s.messageFrom chars = some (.deny n reason)) :
    exec (.deny chars) s = .next (s.validMessage.denyFor k reason).endEvent := by
  simp only [exec, execDeny, h, forCall_of_held hk, taken]

theorem exec_end_of_held {reason : EndReason} (h : s.messageFrom chars = some (.endService n reason)) :
    exec (.endService chars) s = .next (s.validMessage.endFor k reason).endEvent := by
  simp only [exec, execEnd, h, forCall_of_held hk, taken]

end Messages

/-! ### What each message does by the state of its slot (R146 to R151) -/

section Slot

variable {s : State} {k : Fin 4} {ap : Fin 8}

theorem countOnSlot_of_approach (hap : (s.slot k).approach = some ap) (c : ApproachCounter) :
    s.countOnSlot k c = s.count (.approach ap c) := by
  simp only [State.countOnSlot, hap]

theorem acceptFor_of_called (hst : (s.slot k).state = .called) (hap : (s.slot k).approach = some ap) :
    s.acceptFor k = ((s.count (.approach ap .accepts)).setSlotTimer k
      (some { kind := .startLimit, left := s.params.startLimit })).advanceSlot k .granted := by
  simp only [State.acceptFor, hst, countOnSlot_of_approach hap]

theorem beginService_of_duration {d : Nat} (hd : (s.slot k).duration = some d) :
    s.beginService k = (s.setSlotTimer k (some { kind := .serviceLimit, left := d + 50 })).advanceSlot k .serving := by
  rw [State.beginService, hd]
  rfl

theorem startFor_of_granted (hst : (s.slot k).state = .granted) : s.startFor k = s.beginService k := by
  simp only [State.startFor, hst]

theorem startFor_of_called (hst : (s.slot k).state = .called) (hap : (s.slot k).approach = some ap) :
    s.startFor k = (s.count (.approach ap .accepts)).beginService k := by
  simp only [State.startFor, hst, countOnSlot_of_approach hap]

theorem denyFor_of_early (hst : (s.slot k).state = .called ∨ (s.slot k).state = .granted) (reason : DenyReason) :
    s.denyFor k reason = s.denySlot k reason := by
  rcases hst with hst | hst <;> simp only [State.denyFor, hst]

theorem endFor_of_early (hst : (s.slot k).state = .called ∨ (s.slot k).state = .granted) (reason : EndReason) :
    s.endFor k reason = s.denySlot k .notNow := by
  rcases hst with hst | hst <;> simp only [State.endFor, hst]

theorem endFor_of_serving (hst : (s.slot k).state = .serving) (reason : EndReason) :
    s.endFor k reason = s.endServing k reason := by
  simp only [State.endFor, hst]

theorem endFor_of_closing (hst : (s.slot k).state = .closing) (reason : EndReason) : s.endFor k reason = s.idleSlot k := by
  simp only [State.endFor, hst]

/-- A denial counts, idles the slot and returns its members with the deny hold-off, and for NEVER without its kind (R148). -/
theorem denySlot_eq (hap : (s.slot k).approach = some ap) (reason : DenyReason) :
    s.denySlot k reason =
      ((s.count (.approach ap .denies)).idleSlot k).returnMembers (s.slot k).members (some s.params.denyHoldOff)
        (if reason = .never then (s.slot k).kind else none) := by
  unfold State.denySlot
  rw [countOnSlot_of_approach hap, State.idleReturning, slot_count]
  cases reason <;> rfl

theorem endServing_normal :
    s.endServing k .normal = ((s.setSlot k { s.slot k with wasServing := true }).idleSlot k).returnMembers
      (s.slot k).members none none := by
  simp only [State.endServing, State.idleReturning, slot_setSlot_same]

theorem endServing_other {reason : EndReason} (hap : (s.slot k).approach = some ap) (h : reason ≠ .normal) :
    s.endServing k reason = ((((s.setSlot k { s.slot k with wasServing := true }).idleSlot k).returnMembers
      (s.slot k).members none none).count (.approach ap .overrides)).raise .serviceOverride := by
  cases reason with
  | normal => exact absurd rfl h
  | overridden | cancelled => simp only [State.endServing, State.idleReturning, slot_setSlot_same, hap]

end Slot

/-- Settles O40: each message acts on the slot of its call by the slot's state. -/
theorem slotMessagesAdvanceOrFree : Obligations.SlotMessagesAdvanceOrFree := by
  refine ⟨fun s chars n k ap d hk hap hd => ?_, fun s chars n k ap hk hap => ?_⟩
  · intro v u granted served
    have hslot : u.slot k = s.slot k := slot_validMessage s k
    have hparams : u.params = s.params := params_validMessage s
    refine ⟨fun h hst => ?_, fun h hst => ?_, fun h hst => ?_, fun t st hsame => ?_⟩
    · rw [exec_accept_of_held hk h]
      change Host.Outcome.next (u.acceptFor k).endEvent = _
      rw [acceptFor_of_called (by rwa [hslot]) (by rwa [hslot]), hparams]
    · rw [exec_start_of_held hk h]
      change Host.Outcome.next (u.startFor k).endEvent = _
      rw [startFor_of_granted (by rwa [hslot]), beginService_of_duration (by rwa [hslot])]
    · rw [exec_start_of_held hk h]
      change Host.Outcome.next (u.startFor k).endEvent = _
      rw [startFor_of_called (by rwa [hslot]) (by rwa [hslot]), beginService_of_duration (by rwa [slot_count, hslot])]
    · intro w
      have hslot : t.slot k = s.slot k := congrArg (fun v => v[k]) hsame
      rw [← hslot]
      exact ⟨advanceSlot_frame t k st, record_advanceSlot t k st⟩
  · intro v u ms denied early ended
    have hslot : u.slot k = s.slot k := slot_validMessage s k
    have hparams : u.params = s.params := params_validMessage s
    have hdenied (reason : DenyReason) : u.denySlot k reason = denied (if reason = .never then (s.slot k).kind else none) := by
      rw [denySlot_eq (by rwa [hslot]), hslot, hparams]
    refine ⟨fun h hst => ?_, fun h hst => ?_, fun reason h => ?_⟩
    · rw [exec_deny_of_held hk h]
      change Host.Outcome.next (u.denyFor k .notNow).endEvent = _
      rw [denyFor_of_early (by rwa [hslot]), hdenied, if_neg nofun]
    · rw [exec_deny_of_held hk h]
      change Host.Outcome.next (u.denyFor k .never).endEvent = _
      rw [denyFor_of_early (by rwa [hslot]), hdenied, if_pos rfl]
    · rw [exec_end_of_held hk h]
      change (early → Host.Outcome.next (u.endFor k reason).endEvent = _) ∧
        (_ → _ → Host.Outcome.next (u.endFor k reason).endEvent = _) ∧
        (_ → _ → Host.Outcome.next (u.endFor k reason).endEvent = _) ∧
        (_ → Host.Outcome.next (u.endFor k reason).endEvent = _)
      refine ⟨fun hst => ?_, fun hst hnormal => ?_, fun hst hother => ?_, fun hst => ?_⟩
      · rw [endFor_of_early (by rwa [hslot]), hdenied, if_neg nofun]
      · rw [endFor_of_serving (by rwa [hslot]), hnormal, endServing_normal, hslot]
      · rw [endFor_of_serving (by rwa [hslot]), endServing_other (by rwa [hslot]) hother, hslot]
      · rw [endFor_of_closing (by rwa [hslot])]

end Sys2Proof.RequestTable
end

section
/-! COMMISSION: the whole-table checks of the model fail as the tests of R185 do, and the mode set (R185, R186). -/

namespace Sys2Proof.RequestTable

open Sys2Proof.Machine Sys2Proof.Safety Sys2Proof.Laws Sys2Proof.LoadedTables Sys2Proof.CorridorPorts

/-! ### An entry's checks (R66, R67) -/

theorem firstFailure_isSome (checks : List Check) : (firstFailure checks).isSome = checks.any (·.1) := by
  rw [firstFailure, Option.isSome_map, List.isSome_find?]

/-- A stored line has a code that names it, so its check passes. -/
theorem badLine_lineCode (field : Nat) (line : Option (Fin 8)) : (badLine field (lineCode line)).1 = false := by
  cases line with
  | none => rfl
  | some l =>
    have hl : ¬ (8 ≤ l.val ∧ l.val ≠ 15) := by omega
    exact decide_eq_false hl

theorem directionCode_in_range (d : Option Port) : ¬ (directionCode d < 0 ∨ 2 < directionCode d) := by
  rcases d with _ | _ | _ <;> decide

theorem directionCode_eq_zero_iff (d : Option Port) : directionCode d = 0 ↔ d = none := by
  rcases d with _ | _ | _ <;> decide

/-- A stored entry fails its checks when it is unfit. -/
theorem entryFails_iff (s : State) (ap : Fin 8) : s.entryFails ap = true ↔ unfit s (s.approach ap) := by
  rw [State.entryFails, firstFailure_isSome]
  generalize s.approach ap = e
  have hcheckIn : (badLine 3 e.raw.checkIn).1 = false := badLine_lineCode 3 e.checkIn
  have hcheckOut : (badLine 4 e.raw.checkOut).1 = false := badLine_lineCode 4 e.checkOut
  have hdirection : ¬ (e.raw.downDirection < 0 ∨ 2 < e.raw.downDirection) := directionCode_in_range e.downDirection
  have hform : (e.raw.downDirection = 0) = (e.downDirection = none) := propext (directionCode_eq_zero_iff e.downDirection)
  simp only [RawApproach.fieldChecks, List.cons_append, List.nil_append, List.any_cons, List.any_nil, hcheckIn,
    hcheckOut, hdirection, hform, Bool.false_or, Bool.or_false, Bool.or_eq_true, false_or, decide_eq_true_eq, outside,
    State.ownAddressCheck, ne_eq, eq_iff_iff]
  exact Iff.rfl

/-! ### The tests of R185, group by group -/

/-- Lists of tests that fail alike element by element fail alike. -/
theorem find?_flatMap_congr {α : Type} (l : List α) {f g : α → List Test}
    (h : ∀ a, (f a).find? (fun y => y.1) = (g a).find? (fun y => y.1)) :
    (l.flatMap f).find? (fun y => y.1) = (l.flatMap g).find? (fun y => y.1) := by
  simp only [List.find?_flatMap, h]

/-- The test of R185 on an in-use approach. -/
def presenceTests (s : State) : List Test := [(decide (∀ ap : Fin 8, ¬ (s.approach ap).inUse = true), 0x0A, 0)]

/-- The tests of R185 on the in-use entries. -/
def entryTests (s : State) : List Test :=
  (List.finRange 8).map fun ap => (decide ((s.approach ap).inUse = true ∧ unfit s (s.approach ap)), 0x0B, ap.val)

/-- The test of R185 on two approaches: they are in use and share a line. -/
def pairTest (s : State) (a b : Fin 8) : Test :=
  (decide (a < b ∧ (s.approach a).inUse = true ∧ (s.approach b).inUse = true ∧
    (((s.approach a).checkIn ≠ none ∧ (s.approach a).checkIn = (s.approach b).checkIn) ∨
      ((s.approach a).checkOut ≠ none ∧ (s.approach a).checkOut = (s.approach b).checkOut))), 0x0C, b.val)

/-- The tests of R185 on the lines that two in-use approaches share. -/
def pairTests (s : State) : List Test :=
  (List.finRange 8).flatMap fun a => (List.finRange 8).map fun b => pairTest s a b

/-- The tests of R185 on the targets of the notice map. -/
def mapTests (s : State) : List Test :=
  s.params.noticeMap.zipIdx.map fun q => (decide (¬ (s.approach q.1.2).inUse = true), 0x0D, q.2)

/-- The tests of R185 on the targets of CONFLICTS. -/
def conflictTests (s : State) : List Test :=
  s.conflicts.flatMap fun q => [(decide (¬ (s.approach q.1).inUse = true), 0x0E, q.1.val),
    (decide (¬ (s.approach q.2).inUse = true), 0x0E, q.2.val)]

theorem commissionTests_eq (s : State) :
    commissionTests s = presenceTests s ++ entryTests s ++ pairTests s ++ mapTests s ++ conflictTests s := rfl

/-- The check of two approaches that share a line. -/
def pairCheck (s : State) (q : Fin 8 × Fin 8) : Check :=
  ((s.approach q.1).inUse && (s.approach q.2).inUse && s.sharesLine q.1 q.2, .roleClash, q.2.val)

theorem commissionChecks_eq (s : State) :
    s.commissionChecks.map testOf = [(s.inUseApproaches.isEmpty, 0x0A, 0)]
      ++ s.inUseApproaches.map (fun ap => (s.entryFails ap, 0x0B, ap.val))
      ++ (allPairs.map (pairCheck s)).map testOf
      ++ s.params.noticeMap.zipIdx.map (fun q => (!(s.approach q.1.2).inUse, 0x0D, q.2))
      ++ s.conflicts.flatMap (fun q =>
          [(!(s.approach q.1).inUse, 0x0E, q.1.val), (!(s.approach q.2).inUse, 0x0E, q.2.val)]) := by
  simp only [State.commissionChecks, List.map_append, List.map_cons, List.map_map, List.map_flatMap, List.map_nil]
  rfl

theorem decide_not_eq_true (b : Bool) : decide (¬ b = true) = !b := by
  cases b <;> rfl

theorem presence_alike (s : State) : [((s.inUseApproaches.isEmpty, 0x0A, 0) : Test)] = presenceTests s := by
  have hempty : s.inUseApproaches.isEmpty = decide (∀ ap : Fin 8, ¬ (s.approach ap).inUse = true) := by
    rw [Bool.eq_iff_iff, decide_eq_true_iff, List.isEmpty_iff, State.inUseApproaches, List.filter_eq_nil_iff]
    exact ⟨fun h ap => h ap (List.mem_finRange ap), fun h ap _ => h ap⟩
  rw [presenceTests, hempty]

theorem entries_alike (s : State) :
    (s.inUseApproaches.map (fun ap => ((s.entryFails ap, 0x0B, ap.val) : Test))).find? (fun y => y.1) =
      (entryTests s).find? (fun y => y.1) := by
  refine find?_map_filter approachNumbers fun ap => Prod.ext ?_ rfl
  simp only [← entryFails_iff, Bool.decide_and, Bool.decide_eq_true]

theorem sharesLine_iff (s : State) (a b : Fin 8) :
    s.sharesLine a b = true ↔
      ((s.approach a).checkIn ≠ none ∧ (s.approach a).checkIn = (s.approach b).checkIn) ∨
        ((s.approach a).checkOut ≠ none ∧ (s.approach a).checkOut = (s.approach b).checkOut) := by
  simp only [State.sharesLine, Bool.or_eq_true, Bool.and_eq_true, decide_eq_true_eq, Option.isSome_iff_ne_none]

/-- The 28 pairs, lower approach first, are the 64 with the order tested. -/
theorem pairs_alike (s : State) :
    ((allPairs.map (pairCheck s)).map testOf).find? (fun y => y.1) = (pairTests s).find? (fun y => y.1) := by
  rw [allPairs, List.map_flatMap, List.map_flatMap]
  refine find?_flatMap_congr _ fun a => ?_
  rw [List.map_map, List.map_map]
  refine find?_map_filter approachNumbers fun b => Prod.ext ?_ rfl
  simp only [pairTest, ← sharesLine_iff, Bool.decide_and, Bool.decide_eq_true, Bool.and_assoc, pairCheck, testOf,
    Function.comp_apply]

theorem commissionChecks_alike (s : State) :
    (s.commissionChecks.map testOf).find? (fun y => y.1) = (commissionTests s).find? (fun y => y.1) := by
  rw [commissionChecks_eq, commissionTests_eq]
  simp only [List.find?_append, presence_alike, entries_alike, pairs_alike, mapTests, conflictTests, decide_not_eq_true]

/-! ### The request (R186) -/

section Commission

variable {s : State} (b : List Byte) (hstandby : s.mode = .standby)

include hstandby

theorem commissionRequest_of_allPass (h : AllPass (commissionTests s)) :
    commissionRequest b s = ({ s with mode := .active }, .plain .done) := by
  have hpass : firstFailure s.commissionChecks = none := firstFailure_of_allPass_alike (commissionChecks_alike s) h
  simp only [commissionRequest, if_pos hstandby, hpass]

theorem commissionRequest_of_firstFails {code index : Nat} (h : FirstFails (commissionTests s) code index) :
    commissionRequest b s = (s, refusedBy code index) := by
  obtain ⟨f, hf, hanswer⟩ := firstFailure_of_firstFails_alike (commissionChecks_alike s) h
  simp only [commissionRequest, if_pos hstandby, hf, hanswer]

end Commission

theorem commissionRequest_of_other {s : State} (b : List Byte) (h : s.mode ≠ .standby) :
    commissionRequest b s = (s, .plain .badState) := if_neg h

end Sys2Proof.RequestTable
end

section
/-! DECOMMISSION: the messages placed, the records counted as RETIRED, and what is left unchanged (R111, R134, R187). -/

namespace Sys2Proof.RequestTable

open Sys2Proof.Machine Sys2Proof.Safety Sys2Proof.Laws Sys2Proof.LoadedTables Sys2Proof.CorridorPorts

/-! ### The messages placed (R134, R161) -/

/-- The message with which a slot is given up: a slot that is not open places none. -/
def giveUpMessages (s : State) (k : Fin 4) : List CtrlMessage :=
  if (s.slot k).state.isOpen then [s.compose (s.slot k).state.givingUp k] else []

/-- The message is composed from the slot and the entries alone. -/
theorem giveUpMessages_congr {s t : State} {k : Fin 4} (hslot : t.slot k = s.slot k)
    (happroaches : t.approaches = s.approaches) : giveUpMessages t k = giveUpMessages s k := by
  simp only [giveUpMessages, State.compose, State.approach, hslot, happroaches]

theorem output_giveUp (s : State) (k : Fin 4) : (s.giveUp k).output = s.output ++ giveUpMessages s k := by
  unfold State.giveUp giveUpMessages
  dsimp only
  split
  · rfl
  · exact (List.append_nil _).symm

theorem giveUp_frame (s : State) (k : Fin 4) :
    s.giveUp k =
      { s with slots := (s.giveUp k).slots, slotTimers := (s.giveUp k).slotTimers, output := (s.giveUp k).output } := by
  unfold State.giveUp
  dsimp only
  split <;> rfl

theorem giveUpMessages_giveUp_ne (s : State) {k j : Fin 4} (h : j ≠ k) :
    giveUpMessages (s.giveUp k) j = giveUpMessages s j := by
  refine giveUpMessages_congr ?_ (by rw [giveUp_frame])
  rw [slot_of_view (slotView_giveUp s k), slot_setSlotTimer, slot_setSlot, if_neg h]

/-- Each slot's message is the one it has before any is given up. -/
theorem output_giveUpEach {ks : List (Fin 4)} (hks : ks.Nodup) (s : State) :
    (forEach ks (fun k t => t.giveUp k) s).output = s.output ++ ks.flatMap (giveUpMessages s) := by
  induction ks generalizing s with
  | nil => exact (List.append_nil _).symm
  | cons k rest ih =>
    obtain ⟨hk, hrest⟩ := List.nodup_cons.mp hks
    have hsame : rest.flatMap (giveUpMessages (s.giveUp k)) = rest.flatMap (giveUpMessages s) :=
      List.flatMap_congr fun j hj => giveUpMessages_giveUp_ne s fun heq => hk (heq ▸ hj)
    rw [forEach_cons, ih hrest, hsame, output_giveUp, List.flatMap_cons, List.append_assoc]

/-! ### What is written -/

theorem giveUpEach_frame (ks : List (Fin 4)) (s : State) :
    forEach ks (fun k t => t.giveUp k) s =
      { s with slots := (forEach ks (fun k t => t.giveUp k) s).slots
               slotTimers := (forEach ks (fun k t => t.giveUp k) s).slotTimers
               output := (forEach ks (fun k t => t.giveUp k) s).output } := by
  refine forEach_keeps (P := fun t => t = { s with slots := t.slots, slotTimers := t.slotTimers, output := t.output }) _
    (fun k t ht => ?_) ks rfl
  have hone := giveUp_frame t k
  generalize t.giveUp k = u at hone ⊢
  rw [hone, ht]

theorem retireAll_frame (s : State) :
    s.retireAll =
      { s with records := s.retireAll.records
               counters := s.retireAll.counters
               rollover := s.retireAll.rollover
               conditions := s.retireAll.conditions
               alertDue := s.retireAll.alertDue } := by
  refine forEach_keeps (P := fun t => t = { s with records := t.records, counters := t.counters
                                                   rollover := t.rollover, conditions := t.conditions
                                                   alertDue := t.alertDue }) _ (fun r t ht => ?_) recordSlots rfl
  have hone := takeOut_frame t r .retired
  generalize t.takeOut r .retired = u at hone ⊢
  rw [hone, ht]

theorem emptied_frame (s : State) :
    emptied s =
      { s with records := (emptied s).records, slots := (emptied s).slots, slotTimers := (emptied s).slotTimers
               output := (emptied s).output, counters := (emptied s).counters, rollover := (emptied s).rollover
               conditions := (emptied s).conditions, alertDue := (emptied s).alertDue } := by
  have hretire := retireAll_frame s
  have hgive : emptied s = _ := giveUpEach_frame callSlots s.retireAll
  change emptied s = { s.retireAll with slots := (emptied s).slots
                                        slotTimers := (emptied s).slotTimers
                                        output := (emptied s).output } at hgive
  generalize emptied s = v at hgive ⊢
  generalize s.retireAll = u at hretire hgive
  rw [hgive, hretire]

theorem decommission_frame (s : State) :
    s.decommission =
      { s with mode := s.decommission.mode, evalDue := s.decommission.evalDue, records := s.decommission.records
               slots := s.decommission.slots, slotTimers := s.decommission.slotTimers
               lockouts := s.decommission.lockouts, output := s.decommission.output
               counters := s.decommission.counters, rollover := s.decommission.rollover
               conditions := s.decommission.conditions, alertDue := s.decommission.alertDue } := by
  have hemptied := emptied_frame s
  rw [decommission_eq]
  generalize emptied s = v at hemptied ⊢
  rw [hemptied]

theorem mode_decommission (s : State) : s.decommission.mode = .standby := by
  rw [decommission_eq]

theorem evalDue_decommission (s : State) : s.decommission.evalDue = false := by
  rw [decommission_eq]

theorem output_decommission (s : State) :
    s.decommission.output = s.output ++ callSlots.flatMap (giveUpMessages s) := by
  have hmessages (k : Fin 4) : giveUpMessages s.retireAll k = giveUpMessages s k := by
    refine giveUpMessages_congr ?_ (by rw [retireAll_frame])
    exact congrArg (fun v => v[k]) (show s.retireAll.slots = s.slots by rw [retireAll_frame])
  have houtput : s.retireAll.output = s.output := by rw [retireAll_frame]
  calc s.decommission.output
      = (emptied s).output := by rw [decommission_eq]
    _ = s.retireAll.output ++ callSlots.flatMap (giveUpMessages s.retireAll) :=
        output_giveUpEach (List.nodup_finRange 4) s.retireAll
    _ = s.output ++ callSlots.flatMap (giveUpMessages s) := by rw [houtput, funext hmessages]

/-! ### The RETIRED counters (R111) -/

theorem get_count_retired_ne (s : State) {ap o : Fin 8} (h : o ≠ ap) :
    (s.count (.approach o .retired)).counters.get (.approach ap .retired) =
      s.counters.get (.approach ap .retired) := by
  have hput (v : Count) : (s.counters.put (.approach o .retired) v).get (.approach ap .retired) =
      s.counters.get (.approach ap .retired) := by
    have hval : o.val ≠ ap.val := fun heq => h (Fin.ext heq)
    simp [Counters.get, Counters.put, Vector.getElem_set_ne _ _ hval]
  unfold State.count
  dsimp only
  split_ifs
  · exact hput _
  · rw [raise_counters]
    exact hput _
  · exact hput _

/-- A record taken out as RETIRED is counted on its own approach alone. -/
theorem retired_takeOut_eq (s : State) (ap : Fin 8) (r : Fin 24) :
    (s.takeOut r .retired).counters.get (.approach ap .retired) =
      s.counters.get (.approach ap .retired) + BitVec.ofNat 32 (if onApproach ap (s.record r) then 1 else 0) := by
  by_cases hon : onApproach ap (s.record r) = true
  · rw [if_pos hon, retired_takeOut hon]
    rfl
  · rw [if_neg hon]
    refine Eq.trans ?_ (BitVec.add_zero _).symm
    cases hx : s.record r with
    | none => simp only [State.takeOut, hx]
    | some x =>
      rw [hx, onApproach_some] at hon
      simp only [State.takeOut, hx]
      exact get_count_retired_ne (s.setRecord r none) hon

theorem retired_takeOutEach (ap : Fin 8) {rs : List (Fin 24)} (hrs : rs.Nodup) (s : State) :
    (forEach rs (fun r t => t.takeOut r .retired) s).counters.get (.approach ap .retired) =
      s.counters.get (.approach ap .retired) + BitVec.ofNat 32 (rs.countP (fun r => onApproach ap (s.record r))) := by
  induction rs generalizing s with
  | nil => exact (BitVec.add_zero _).symm
  | cons r rest ih =>
    obtain ⟨hr, hrest⟩ := List.nodup_cons.mp hrs
    have hkept : rest.countP (fun q => onApproach ap ((s.takeOut r .retired).record q)) =
        rest.countP (fun q => onApproach ap (s.record q)) := by
      refine List.countP_congr fun q hq => ?_
      have hne : q ≠ r := fun heq => hr (heq ▸ hq)
      rw [record_takeOut, if_neg hne]
    rw [forEach_cons, ih hrest, hkept, List.countP_cons, retired_takeOut_eq, BitVec.add_assoc, Nat.add_comm,
      BitVec.ofNat_add]

theorem retired_decommission (s : State) (ap : Fin 8) :
    s.decommission.counters.get (.approach ap .retired) = s.counters.get (.approach ap .retired)
      + BitVec.ofNat 32 ((List.finRange 24).countP (fun r => onApproach ap (s.record r))) := by
  have hgive : (emptied s).counters = s.retireAll.counters := by
    rw [emptied, giveUpEach_frame]
  calc s.decommission.counters.get (.approach ap .retired)
      = s.retireAll.counters.get (.approach ap .retired) := by rw [← hgive, decommission_eq]
    _ = _ := retired_takeOutEach ap (List.nodup_finRange 24) s

/-! ### The request (R187) -/

theorem decommissionRequest_of_active {s : State} (b : List Byte) (h : s.mode = .active) :
    decommissionRequest b s = (s.decommission, .plain .done) := if_pos h

theorem decommissionRequest_of_other {s : State} (b : List Byte) (h : s.mode ≠ .active) :
    decommissionRequest b s = (s, .plain .badState) := if_neg h

/-- Settles O54: COMMISSION by its tests, DECOMMISSION by what each part of it leaves. -/
theorem commissionAndDecommission : Obligations.CommissionAndDecommission := by
  intro s x rest u tests
  have hmode : u.mode = s.mode := rfl
  refine ⟨fun hhead hstandby => ⟨fun hpass => ?_, fun code index hfail => ?_⟩, fun hhead hother => ?_,
    fun hhead hother => ?_, fun hhead hactive => ⟨u.decommission, ?_, mode_decommission u, evalDue_decommission u,
      record_decommission u, fun k => ⟨slot_decommission u k, slotTimer_decommission u k⟩, lockout_decommission u, ?_,
      decommission_frame u, fun r y hy => ?_⟩⟩
  · exact request_of_code hhead rfl (commissionRequest_of_allPass _ (hmode.trans hstandby) hpass)
  · exact request_of_code hhead rfl (commissionRequest_of_firstFails _ (hmode.trans hstandby) hfail)
  · exact request_of_code hhead rfl (commissionRequest_of_other _ hother)
  · exact request_of_code hhead rfl (decommissionRequest_of_other _ hother)
  · exact request_of_code hhead rfl (decommissionRequest_of_active _ hactive)
  · have hmessage (k : Fin 4) : giveUpMessages u k =
        match (s.slot k).state with
        | .called => [s.compose .cancel k]
        | .granted => [s.compose .cancel k]
        | .serving => [s.compose .release k]
        | .idle => []
        | .closing => [] := by
      change giveUpMessages s k = _
      rw [giveUpMessages]
      cases (s.slot k).state <;> rfl
    exact (output_decommission u).trans (congrArg (s.output ++ callSlots.flatMap ·) (funext hmessage))
  · exact retired_decommission u y.approach

end Sys2Proof.RequestTable
end

section
/-! Eligibility, the choice of a kind, and the order of the candidates (R116 to R120). -/

namespace Sys2Proof.CallArbitration

open Sys2Proof.Machine Sys2Proof.Safety Sys2Proof.Laws Sys2Proof.LineFormats

/-! ### The mark and the event (R116, R117) -/

theorem execEvaluation_of_due {s : State} (hm : s.mode = .active) (hdue : s.evalDue = true) :
    execEvaluation s = taken (State.evaluate { s with evalDue := false }) := if_pos ⟨hm, hdue⟩

/-! ### Eligibility and kind (R118, R119) -/

/-- What R118 asks of a record for a kind. -/
def Eligible (s : State) (x : Record) (k : ServiceKind) : Prop :=
  x.state = .waiting ∧ (s.approach x.approach).kinds.has k = true ∧ x.excluded.has k = false ∧ x.holdOff = none ∧
    s.lockout x.approach = none ∧ ((x.basis = .confirmed ∧ s.params.floor ≤ x.level) ∨ k = .extend) ∧
    (x.basis = .forecast → x.eta ≤ (s.approach x.approach).extension)

theorem eligible_iff (s : State) (x : Record) (k : ServiceKind) : s.eligible x k = true ↔ Eligible s x k := by
  simp only [State.eligible, Eligible, Bool.and_eq_true, Bool.or_eq_true, decide_eq_true_eq, Bool.not_eq_true',
    Option.isNone_iff_eq_none, and_assoc, ne_eq, ← imp_iff_not_or]

/-- The phase group of a record's approach is green. -/
def Green (s : State) (x : Record) : Prop :=
  (s.approach x.approach).phaseGroup ≠ 0 ∧
    s.controller.greenSet.getLsbD ((s.approach x.approach).phaseGroup - 1) = true

theorem inGreenSet_iff (s : State) (x : Record) :
    inGreenSet s.controller.greenSet (s.approach x.approach).phaseGroup = true ↔ Green s x := by
  simp only [inGreenSet, Green, Bool.and_eq_true, decide_eq_true_eq, Nat.one_le_iff_ne_zero]

section Kind

variable {s : State} {x : Record}

theorem chosenKind_of_unknown (h : ¬ s.controller.phaseKnown = true) : s.chosenKind x = none := if_neg h

theorem chosenKind_of_green (hknown : s.controller.phaseKnown = true) (hgreen : Green s x) :
    s.chosenKind x = if s.eligible x .extend then some .extend else none := by
  rw [State.chosenKind, if_pos hknown, if_pos ((inGreenSet_iff s x).mpr hgreen)]

theorem chosenKind_of_red (hknown : s.controller.phaseKnown = true) (hred : ¬ Green s x) :
    s.chosenKind x =
      if s.eligible x .early then some .early else if s.eligible x .jump then some .jump else none := by
  rw [State.chosenKind, if_pos hknown, if_neg (mt (inGreenSet_iff s x).mp hred)]

end Kind

/-- Each kind is chosen by the status, the green set and what the record is eligible for. -/
theorem chosenKind_iff (s : State) (x : Record) :
    (s.chosenKind x = some .extend ↔ s.controller.phaseKnown = true ∧ Green s x ∧ Eligible s x .extend) ∧
    (s.chosenKind x = some .early ↔ s.controller.phaseKnown = true ∧ ¬ Green s x ∧ Eligible s x .early) ∧
    (s.chosenKind x = some .jump ↔
      s.controller.phaseKnown = true ∧ ¬ Green s x ∧ ¬ Eligible s x .early ∧ Eligible s x .jump) := by
  simp only [← eligible_iff]
  by_cases hknown : s.controller.phaseKnown = true
  · by_cases hgreen : Green s x
    · rw [chosenKind_of_green hknown hgreen]
      simp [hknown, hgreen]
    · rw [chosenKind_of_red hknown hgreen]
      by_cases hearly : s.eligible x .early = true
      · simp [hknown, hgreen, hearly]
      · simp [hknown, hgreen, hearly]
  · simp [chosenKind_of_unknown hknown, hknown]

/-! ### Keys in order (R120) -/

theorem keysBefore_nil (ys : List Int) : keysBefore [] ys = false := rfl

theorem keysBefore_cons_iff (x y : Int) (xs ys : List Int) :
    keysBefore (x :: xs) (y :: ys) = true ↔ x < y ∨ x = y ∧ keysBefore xs ys = true := by
  simp only [keysBefore]
  split
  case isTrue he => simp [he]
  case isFalse hne => simp [hne]

theorem keysBefore_trans {xs ys zs : List Int} (hxy : keysBefore xs ys = true) (hyz : keysBefore ys zs = true) :
    keysBefore xs zs = true := by
  induction xs generalizing ys zs with
  | nil => exact nomatch hxy
  | cons x xs ih =>
    cases ys with
    | nil => exact nomatch hxy
    | cons y ys =>
      cases zs with
      | nil => exact nomatch hyz
      | cons z zs =>
        rw [keysBefore_cons_iff] at hxy hyz ⊢
        rcases hxy with hxy | ⟨rfl, hxy⟩ <;> rcases hyz with hyz | ⟨rfl, hyz⟩
        · exact .inl (hxy.trans hyz)
        · exact .inl hxy
        · exact .inl hyz
        · exact .inr ⟨rfl, ih hxy hyz⟩

theorem keysBefore_total {xs ys : List Int} (hlen : xs.length = ys.length) (hne : xs ≠ ys) :
    keysBefore xs ys = true ∨ keysBefore ys xs = true := by
  induction xs generalizing ys with
  | nil => exact absurd (List.length_eq_zero_iff.mp hlen.symm).symm hne
  | cons x xs ih =>
    cases ys with
    | nil => exact nomatch hlen
    | cons y ys =>
      rw [keysBefore_cons_iff, keysBefore_cons_iff]
      rcases lt_trichotomy x y with hlt | rfl | hgt
      · exact .inl (.inl hlt)
      · have hrest := ih (Nat.succ.inj hlen) fun he => hne (congrArg _ he)
        exact hrest.imp (fun h => .inr ⟨rfl, h⟩) fun h => .inr ⟨rfl, h⟩
      · exact .inr (.inl hgt)

/-! ### Record slots put in order -/

theorem insertBy_perm (before : Fin 24 → Fin 24 → Bool) (r : Fin 24) (l : List (Fin 24)) :
    (insertBy before r l).Perm (r :: l) := by
  induction l with
  | nil => exact .refl _
  | cons q rest ih =>
    unfold insertBy
    split
    · exact .refl _
    · exact (ih.cons q).trans (.swap r q rest)

theorem sortBy_perm (before : Fin 24 → Fin 24 → Bool) (l : List (Fin 24)) : (sortBy before l).Perm l := by
  induction l with
  | nil => exact .refl _
  | cons r rest ih => exact (insertBy_perm before r _).trans (ih.cons r)

section Sorted

variable {before : Fin 24 → Fin 24 → Bool}
  (htrans : ∀ a b c, before a b = true → before b c = true → before a c = true)

include htrans

theorem pairwise_insertBy {r : Fin 24} {l : List (Fin 24)} (hl : l.Pairwise (fun a b => before a b = true))
    (htotal : ∀ q ∈ l, before r q = true ∨ before q r = true) :
    (insertBy before r l).Pairwise (fun a b => before a b = true) := by
  induction l with
  | nil => exact List.pairwise_singleton _ r
  | cons q rest ih =>
    obtain ⟨hq, hrest⟩ := List.pairwise_cons.mp hl
    unfold insertBy
    split
    case isTrue hrq =>
      refine List.pairwise_cons.mpr ⟨fun p hp => ?_, hl⟩
      rcases List.mem_cons.mp hp with rfl | hp
      · exact hrq
      · exact htrans r q p hrq (hq p hp)
    case isFalse hrq =>
      refine List.pairwise_cons.mpr ⟨fun p hp => ?_, ih hrest fun p hp => htotal p (List.mem_cons_of_mem q hp)⟩
      rcases List.mem_cons.mp ((insertBy_perm before r rest).mem_iff.mp hp) with rfl | hp
      · exact (htotal q List.mem_cons_self).resolve_left hrq
      · exact hq p hp

theorem pairwise_sortBy {l : List (Fin 24)}
    (htotal : l.Pairwise (fun a b => before a b = true ∨ before b a = true)) :
    (sortBy before l).Pairwise (fun a b => before a b = true) := by
  induction l with
  | nil => exact List.Pairwise.nil
  | cons r rest ih =>
    obtain ⟨hr, hrest⟩ := List.pairwise_cons.mp htotal
    exact pairwise_insertBy htrans (ih hrest) fun q hq => hr q ((sortBy_perm before rest).mem_iff.mp hq)

end Sorted

/-! ### The candidates (R120) -/

theorem candidates_perm (s : State) :
    s.candidates.Perm (recordSlots.filter (fun r => (s.record r).any (fun x => x.state = .waiting))) :=
  sortBy_perm _ _

theorem mem_candidates (s : State) (r : Fin 24) :
    r ∈ s.candidates ↔ ∃ x, s.record r = some x ∧ x.state = .waiting := by
  rw [(candidates_perm s).mem_iff, List.mem_filter, Option.any_eq_true]
  simp only [recordSlots, List.mem_finRange, true_and, decide_eq_true_eq]

theorem candidates_nodup (s : State) : s.candidates.Nodup :=
  (candidates_perm s).nodup_iff.mpr ((List.nodup_finRange 24).filter _)

theorem candidateKeys_of_record {s : State} {r : Fin 24} {x : Record} (h : s.record r = some x) :
    s.candidateKeys r =
      [-(x.level : Int), basisKey x.basis, x.eta, -((s.approach x.approach).rank : Int), r.val] := by
  simp only [State.candidateKeys, h]

/-- Two candidates differ in their last key at least, so one comes before the other. -/
theorem candidates_ordered (s : State) :
    s.candidates.Pairwise (fun r q => keysBefore (s.candidateKeys r) (s.candidateKeys q) = true) := by
  refine pairwise_sortBy (before := fun r q => keysBefore (s.candidateKeys r) (s.candidateKeys q))
    (fun _ _ _ => keysBefore_trans) ?_
  refine List.Pairwise.imp_of_mem (fun {r q} hr hq hne => ?_) ((List.nodup_finRange 24).filter _)
  obtain ⟨x, hx, _⟩ := Option.any_eq_true _ _ |>.mp (List.mem_filter.mp hr).2
  obtain ⟨y, hy, _⟩ := Option.any_eq_true _ _ |>.mp (List.mem_filter.mp hq).2
  rw [candidateKeys_of_record hx, candidateKeys_of_record hy]
  refine keysBefore_total rfl fun he => hne (Fin.ext ?_)
  simpa using congrArg (·.getLast?) he

/-- The place of a basis in the order: CONFIRMED first (R120). -/
def basisRank (x : Record) : Nat := if x.basis = .confirmed then 0 else 1

theorem basisKey_eq (x : Record) : basisKey x.basis = basisRank x := by
  unfold basisRank
  cases x.basis <;> rfl

/-- Keys in order, the first that differs deciding, say what R120 says of two records. -/
theorem ordered_of_keysBefore {s : State} {r q : Fin 24} {x y : Record} (hx : s.record r = some x)
    (hy : s.record q = some y) (h : keysBefore (s.candidateKeys r) (s.candidateKeys q) = true) :
    y.level < x.level ∨ (y.level = x.level ∧ (basisRank x < basisRank y ∨ (basisRank x = basisRank y ∧
      (x.eta < y.eta ∨ (x.eta = y.eta ∧ ((s.approach y.approach).rank < (s.approach x.approach).rank ∨
        ((s.approach y.approach).rank = (s.approach x.approach).rank ∧ r < q))))))) := by
  rw [candidateKeys_of_record hx, candidateKeys_of_record hy, basisKey_eq, basisKey_eq] at h
  simp only [keysBefore_cons_iff, keysBefore_nil, Bool.false_eq_true, and_false, or_false] at h
  rw [Fin.lt_def]
  omega

/-- Settles O33: eligibility and kind test by test, the order by an insertion sort on keys that always differ. -/
theorem evaluationTakenInOrder : Obligations.EvaluationTakenInOrder := by
  refine ⟨⟨fun s hm hdue => execEvaluation_of_due hm hdue, fun s h => execEvaluation_of_not s h,
    fun s => ⟨fun hm => if_pos hm, fun hm => if_neg hm⟩, fun s x => ?_⟩, fun s => ?_⟩
  · exact ⟨fun k => eligible_iff s x k, chosenKind_iff s x⟩
  · refine ⟨mem_candidates s, candidates_nodup s, (candidates_ordered s).imp fun h x hx y hy => ?_⟩
    exact ordered_of_keysBefore hx hy h

end Sys2Proof.CallArbitration
end

section
/-! What the arbiter reads of the controller and the call slots, and joining (R121, R122, R126). -/

namespace Sys2Proof.CallArbitration

open Sys2Proof.Machine Sys2Proof.Safety Sys2Proof.Laws Sys2Proof.LoadedTables

/-! ### The conditions of an opening and a preemption (R122, R126) -/

theorem controllerOpen_iff (s : State) :
    s.controllerOpen = true ↔
      s.controller.ready = .ready ∧ s.controller.unresponsive = false ∧ s.controller.phaseKnown = true := by
  simp only [State.controllerOpen, Bool.and_eq_true, decide_eq_true_eq, Bool.not_eq_true', and_assoc]

theorem slotsInUse_eq (s : State) :
    s.slotsInUse = (List.finRange 4).countP (fun k => decide ((s.slot k).state ≠ .idle)) :=
  List.countP_eq_length_filter.symm

theorem approachHeld_eq_false_iff (s : State) (ap : Fin 8) :
    s.approachHeld ap = false ↔ ∀ j : Fin 4, (s.slot j).state ≠ .idle → (s.slot j).approach ≠ some ap := by
  simp only [State.approachHeld, State.holds, callSlots, List.any_eq_false, List.mem_finRange, forall_const,
    Bool.and_eq_true, decide_eq_true_eq, not_and, ne_eq]

/-- Slot `j` is in use and holds an approach that conflicts with `ap`. -/
def Conflicting (s : State) (ap : Fin 8) (j : Fin 4) : Prop :=
  (s.slot j).state ≠ .idle ∧ ∃ y, (s.slot j).approach = some y ∧ s.conflict ap y = true

theorem mem_conflictingSlots (s : State) (ap : Fin 8) (j : Fin 4) :
    j ∈ s.conflictingSlots ap ↔ Conflicting s ap j := by
  simp only [State.conflictingSlots, State.slotConflicts, callSlots, List.mem_filter, List.mem_finRange, true_and,
    Bool.and_eq_true, decide_eq_true_eq, Option.any_eq_true, Conflicting]

/-- No slot in use holds the approach or one that conflicts with it (R122). -/
def ApproachFree (s : State) (ap : Fin 8) : Prop :=
  ∀ j : Fin 4, (s.slot j).state ≠ .idle → ∀ y ∈ (s.slot j).approach, y ≠ ap ∧ s.conflict ap y = false

theorem approachFree_iff (s : State) (ap : Fin 8) :
    ApproachFree s ap ↔ s.approachHeld ap = false ∧ s.conflictingSlots ap = [] := by
  rw [approachHeld_eq_false_iff, List.eq_nil_iff_forall_not_mem]
  simp only [mem_conflictingSlots]
  constructor
  · intro hfree
    refine ⟨fun j hj hap => (hfree j hj ap hap).1 rfl, fun j ⟨hj, y, hy, hconf⟩ => ?_⟩
    exact nomatch hconf.symm.trans (hfree j hj y hy).2
  · rintro ⟨hheld, hconf⟩ j hj y hy
    refine ⟨fun he => hheld j hj (he ▸ hy), Bool.eq_false_iff.mpr fun hpair => ?_⟩
    exact hconf j ⟨hj, y, hy, hpair⟩

/-! ### Joining (R121) -/

section Join

variable {s : State} {r : Fin 24} {x : Record}

theorem tryJoin_of_free (h : s.record r = none) : s.tryJoin r = s := by
  simp only [State.tryJoin, h]

theorem tryJoin_of_noSlot (hx : s.record r = some x) (h : s.openSlotOf x.approach = none) : s.tryJoin r = s := by
  simp only [State.tryJoin, hx, h]

theorem tryJoin_of_slot {k : Fin 4} {kind : ServiceKind} (hx : s.record r = some x)
    (hk : s.openSlotOf x.approach = some k) (hkind : (s.slot k).kind = some kind) :
    s.tryJoin r = if s.eligible x kind then s.join k r x else s := by
  simp only [State.tryJoin, hx, hk, hkind]

end Join

/-- What records that join slot `k` leave: its members grow at the tail, and no other slot, no approach of a record and
nothing but slots and records changes. -/
structure Joined (k : Fin 4) (s t : State) : Prop where
  frame : t = { s with slots := t.slots, records := t.records }
  others : ∀ j, j ≠ k → t.slot j = s.slot j
  slot : ∃ ms, t.slot k = { s.slot k with members := (s.slot k).members ++ ms }
  approach : ∀ q, (t.record q).map Record.approach = (s.record q).map Record.approach

theorem Joined.refl (k : Fin 4) (s : State) : Joined k s s :=
  ⟨rfl, fun _ _ => rfl, ⟨[], by rw [List.append_nil]⟩, fun _ => rfl⟩

theorem Joined.trans {k : Fin 4} {s t u : State} (h : Joined k s t) (g : Joined k t u) : Joined k s u where
  frame := by
    have hs := h.frame
    have ht := g.frame
    generalize t.slots = slots, t.records = records at hs
    rw [ht, hs]
  others j hj := (g.others j hj).trans (h.others j hj)
  slot := by
    obtain ⟨ms, hms⟩ := h.slot
    obtain ⟨ns, hns⟩ := g.slot
    exact ⟨ms ++ ns, by rw [hns, hms, List.append_assoc]⟩
  approach q := (g.approach q).trans (h.approach q)

/-- Slots keep their states and approaches while records join. -/
theorem Joined.same {k : Fin 4} {s t : State} (h : Joined k s t) (j : Fin 4) :
    (t.slot j).state = (s.slot j).state ∧ (t.slot j).approach = (s.slot j).approach := by
  by_cases hj : j = k
  · obtain ⟨ms, hms⟩ := h.slot
    rw [hj, hms]
    exact ⟨rfl, rfl⟩
  · rw [h.others j hj]
    exact ⟨rfl, rfl⟩

section Frame

variable {k : Fin 4} {s t : State} (h : Joined k s t)

include h

theorem Joined.nextCall : t.nextCall = s.nextCall := by rw [h.frame]

theorem Joined.output : t.output = s.output := by rw [h.frame]

theorem Joined.slotTimers : t.slotTimers = s.slotTimers := by rw [h.frame]

theorem Joined.counters : t.counters = s.counters := by rw [h.frame]

end Frame

theorem joined_join {s : State} {r : Fin 24} {x : Record} (k : Fin 4) (hx : s.record r = some x) :
    Joined k s (s.join k r x) where
  frame := rfl
  others j hj := by simp only [State.join, slot_setRecord, slot_setSlot_ne _ _ _ j hj]
  slot := ⟨[r], by simp only [State.join, slot_setRecord, slot_setSlot_same]⟩
  approach q := by
    simp only [State.join, record_setRecord, record_setSlot]
    split
    case isTrue hq =>
      rw [hq, hx]
      rfl
    case isFalse => rfl

/-- Slot `k` is the one open slot that may hold the approach. -/
def OneSlot (s : State) (ap : Fin 8) (k : Fin 4) : Prop :=
  ∀ j : Fin 4, (s.slot j).state.isOpen = true → (s.slot j).approach = some ap → j = k

theorem joined_tryJoin {s : State} {ap : Fin 8} {k : Fin 4} {r : Fin 24} (hone : OneSlot s ap k)
    (hr : ∀ x ∈ s.record r, x.approach = ap) : Joined k s (s.tryJoin r) := by
  rcases tryJoin_cases s r with he | ⟨j, x, he, hx, _, hopen, hap⟩
  · rw [he]
    exact .refl k s
  · obtain rfl := hone j hopen (hr x hx ▸ hap)
    rw [he]
    exact joined_join j hx

/-- Records on one approach join its one open slot. -/
theorem joined_forEach {ap : Fin 8} {k : Fin 4} (rs : List (Fin 24)) {s : State} (hone : OneSlot s ap k)
    (hrs : ∀ r ∈ rs, ∀ x ∈ s.record r, x.approach = ap) : Joined k s (forEach rs (fun r t => t.tryJoin r) s) := by
  induction rs generalizing s with
  | nil => exact .refl k s
  | cons r rest ih =>
    have hstep : Joined k s (s.tryJoin r) := joined_tryJoin hone (hrs r List.mem_cons_self)
    refine hstep.trans (ih (fun j hopen hap => ?_) fun q hq x hx => ?_)
    · obtain ⟨hstate, happroach⟩ := hstep.same j
      exact hone j (hstate ▸ hopen) (happroach ▸ hap)
    · have hmap := hstep.approach q
      rw [Option.mem_def.mp hx] at hmap
      obtain ⟨y, hy, hyx⟩ := Option.map_eq_some_iff.mp hmap.symm
      exact hyx.symm.trans (hrs q (List.mem_cons_of_mem r hq) y hy)

end Sys2Proof.CallArbitration
end

section
/-! Preemption: which slots, exactly when, and what it does to each (R126, R127). -/

namespace Sys2Proof.CallArbitration

open Sys2Proof.Machine Sys2Proof.Safety Sys2Proof.Laws

theorem givesWay_iff (s : State) (level : Nat) (k : Fin 4) :
    s.givesWay level k = true ↔ (s.slot k).state ≠ .closing ∧
      ∀ m ∈ (s.slot k).members, ∀ z ∈ s.record m, z.level + s.params.margin ≤ level := by
  simp only [State.givesWay, Bool.and_eq_true, decide_eq_true_eq, List.all_eq_true, Option.all_eq_true, Option.mem_def]

section Preempted

variable {s : State} {r : Fin 24} {x : Record} (hmargin : s.params.margin ≠ 0) (hopen : s.controllerOpen = true)
  (hlead : s.leading = some r) (hx : s.record r = some x)

include hmargin hopen hlead hx

/-- The leading candidate preempts all the slots that conflict, or none. -/
theorem preempted_of_leading :
    s.preempted =
      if s.approachHeld x.approach = false ∧ (s.conflictingSlots x.approach).all (s.givesWay x.level) then
        s.conflictingSlots x.approach
      else [] := by
  rw [State.preempted, if_pos ⟨hmargin, hopen⟩]
  simp only [hlead, hx]

end Preempted

/-- A slot is preempted by a leading candidate alone. -/
theorem leading_of_preempted {s : State} {k : Fin 4} (hk : k ∈ s.preempted) :
    s.params.margin ≠ 0 ∧ s.controllerOpen = true ∧ ∃ r x, s.leading = some r ∧ s.record r = some x := by
  unfold State.preempted at hk
  split at hk
  case isTrue hopen =>
    split at hk
    case h_1 => exact nomatch hk
    case h_2 r hlead =>
      split at hk
      case h_1 => exact nomatch hk
      case h_2 x hx => exact ⟨hopen.1, hopen.2, r, x, hlead, hx⟩
  case isFalse => exact nomatch hk

theorem chosenKind_of_leading {s : State} {r : Fin 24} {x : Record} (hlead : s.leading = some r)
    (hx : s.record r = some x) : (s.chosenKind x).isSome = true := by
  have hr := List.find?_some hlead
  rwa [hx] at hr

/-- Settles O37: a preemption closes the conflicting slots of the leading candidate when every test of R126 passes. -/
theorem preemptionClosesSlots : Obligations.PreemptionClosesSlots := by
  refine ⟨fun s k ap hap => ?_, fun s => rfl, fun s r x => ?_, fun s k hk => ?_⟩
  · simp only [State.preemptSlot, State.closeReturning, hap]
  · intro conflicting hmargin hready hresp hknown hlead hx hfree hways
    have hopen := (controllerOpen_iff s).mpr ⟨hready, hresp, hknown⟩
    rw [preempted_of_leading hmargin hopen hlead hx, if_pos]
    · rfl
    · refine ⟨(approachHeld_eq_false_iff s _).mpr hfree, List.all_eq_true.mpr fun j hj => ?_⟩
      exact (givesWay_iff s x.level j).mpr (hways j (List.mem_filter.mp hj).2)
  · obtain ⟨hmargin, hopen, r, x, hlead, hx⟩ := leading_of_preempted hk
    obtain ⟨hready, hresp, hknown⟩ := (controllerOpen_iff s).mp hopen
    have hwhich := preempted_of_leading hmargin hopen hlead hx
    rw [hwhich] at hk ⊢
    split at hk
    case isFalse => exact nomatch hk
    case isTrue htests =>
      obtain ⟨hheld, hways⟩ := htests
      obtain ⟨hstate, hlevels⟩ := (givesWay_iff s x.level k).mp (List.all_eq_true.mp hways k hk)
      rw [if_pos ⟨hheld, hways⟩]
      exact ⟨hmargin, hready, hresp, hknown, r, x, hx, chosenKind_of_leading hlead hx, hlead,
        (approachHeld_eq_false_iff s _).mp hheld, mem_conflictingSlots s x.approach, hstate, hlevels⟩

end Sys2Proof.CallArbitration
end

section
/-! Opening: when a slot is opened, for which candidate, with which slot and number, and what the opening leaves (R117,
R121 to R124). -/

namespace Sys2Proof.CallArbitration

open Sys2Proof.Machine Sys2Proof.Safety Sys2Proof.Laws Sys2Proof.LoadedTables Sys2Proof.RequestTable

/-! ### The candidate (R122) -/

/-- A slot may be opened for a record slot: it holds a record with a kind chosen, whose approach is free (R122). -/
def MayOpen (s : State) (r : Fin 24) : Prop :=
  ∃ x ∈ s.record r, (s.chosenKind x).isSome = true ∧ ApproachFree s x.approach

theorem openKind_of_free {s : State} {r : Fin 24} {x : Record} (hx : s.record r = some x)
    (hfree : ApproachFree s x.approach) : s.openKind r = s.chosenKind x := by
  obtain ⟨hheld, hconf⟩ := (approachFree_iff s _).mp hfree
  simp only [State.openKind, hx, hheld, hconf, ne_eq, not_true, Bool.false_eq_true, or_self, if_false]

theorem openKind_eq_some {s : State} {r : Fin 24} {kind : ServiceKind} (h : s.openKind r = some kind) :
    ∃ x, s.record r = some x ∧ s.chosenKind x = some kind ∧ ApproachFree s x.approach := by
  cases hx : s.record r with
  | none => simp only [State.openKind, hx, reduceCtorEq] at h
  | some x =>
    obtain ⟨hheld, hconf, _⟩ := openKind_some hx h
    have hfree := (approachFree_iff s _).mpr ⟨hheld, hconf⟩
    exact ⟨x, rfl, (openKind_of_free hx hfree).symm.trans h, hfree⟩

theorem openKind_isSome_iff (s : State) (r : Fin 24) : (s.openKind r).isSome = true ↔ MayOpen s r := by
  constructor
  · intro h
    obtain ⟨kind, hkind⟩ := Option.isSome_iff_exists.mp h
    obtain ⟨x, hx, hchosen, hfree⟩ := openKind_eq_some hkind
    exact ⟨x, hx, Option.isSome_iff_exists.mpr ⟨kind, hchosen⟩, hfree⟩
  · rintro ⟨x, hx, hchosen, hfree⟩
    rwa [openKind_of_free hx hfree]

theorem openCandidate_of_first {s : State} {earlier later : List (Fin 24)} {r : Fin 24}
    (hlist : s.candidates = earlier ++ r :: later) (hearlier : ∀ q ∈ earlier, ¬ MayOpen s q) (hr : MayOpen s r) :
    s.openCandidate = some r := by
  have hnone : earlier.find? (fun q => (s.openKind q).isSome) = none :=
    List.find?_eq_none.mpr fun q hq => mt (openKind_isSome_iff s q).mp (hearlier q hq)
  rw [State.openCandidate, hlist, List.find?_append, hnone, Option.none_or]
  exact List.find?_cons_of_pos ((openKind_isSome_iff s r).mpr hr)

theorem openCandidate_of_none {s : State} (h : ∀ r ∈ s.candidates, ¬ MayOpen s r) : s.openCandidate = none :=
  List.find?_eq_none.mpr fun r hr => mt (openKind_isSome_iff s r).mp (h r hr)

/-! ### The slot and the number (R123) -/

theorem lowestIdle_eq_some_iff (s : State) (k : Fin 4) :
    s.lowestIdle = some k ↔ (s.slot k).state = .idle ∧ ∀ j : Fin 4, j < k → (s.slot j).state ≠ .idle := by
  rw [State.lowestIdle, callSlots, ← Fin.find?_eq_find?_finRange, Fin.find?_eq_some_iff]
  simp only [decide_eq_true_eq, decide_eq_false_iff_not, ne_eq]

theorem numberHeld_iff (s : State) (n : Nat) :
    s.numberHeld n = true ↔ ∃ j : Fin 4, (s.slot j).state ≠ .idle ∧ (s.slot j).call = some n := by
  simp only [State.numberHeld, callSlots, List.any_eq_true, List.mem_finRange, true_and, Bool.and_eq_true,
    decide_eq_true_eq]

theorem nextNumber_eq_mod {n : Nat} (hlow : 1 ≤ n) (hhigh : n ≤ 15) : nextNumber n = n % 15 + 1 := by
  unfold nextNumber
  split <;> omega

/-- The numbers from the pointer upward, 15 being followed by 1. -/
theorem nextNumber_iterate {n : Nat} (hlow : 1 ≤ n) (hhigh : n ≤ 15) (i : Nat) :
    nextNumber^[i] n = (n - 1 + i) % 15 + 1 := by
  induction i with
  | zero =>
    rw [Function.iterate_zero_apply]
    omega
  | succ i ih =>
    rw [Function.iterate_succ_apply', ih, nextNumber_eq_mod (by omega) (by omega)]
    omega

theorem freeNumber_of_first {s : State} {tries n m : Nat} (hm : m ≤ tries)
    (hheld : ∀ i < m, s.numberHeld (nextNumber^[i] n) = true) (hfree : s.numberHeld (nextNumber^[m] n) = false) :
    s.freeNumber tries n = nextNumber^[m] n := by
  induction m generalizing tries n with
  | zero =>
    cases tries with
    | zero => rfl
    | succ tries => exact if_neg (Bool.eq_false_iff.mp hfree)
  | succ m ih =>
    cases tries with
    | zero => omega
    | succ tries =>
      have hfirst : s.numberHeld n = true := hheld 0 (Nat.succ_pos m)
      rw [State.freeNumber, if_pos hfirst, ih (by omega) (fun i hi => hheld (i + 1) (by omega)) hfree]
      rfl

/-- The number a call takes when the numbers before it, from the pointer upward, are held. -/
theorem freeNumber_of_given {s : State} {m : Nat} (hlow : 1 ≤ s.nextCall) (hhigh : s.nextCall ≤ 15) (hm : m < 15)
    (hheld : ∀ i < m, s.numberHeld ((s.nextCall - 1 + i) % 15 + 1) = true)
    (hfree : s.numberHeld ((s.nextCall - 1 + m) % 15 + 1) = false) :
    s.freeNumber 15 s.nextCall = (s.nextCall - 1 + m) % 15 + 1 := by
  simp only [← nextNumber_iterate hlow hhigh] at hheld hfree ⊢
  exact freeNumber_of_first (by omega) hheld hfree

/-- The number after any number is from 1 to 15, so four slots do not hold all that follow. -/
theorem freeNumber_not_held_any (s : State) : s.numberHeld (s.freeNumber 15 s.nextCall) = false := by
  have hrange : 1 ≤ nextNumber s.nextCall ∧ nextNumber s.nextCall ≤ 15 := by
    unfold nextNumber
    split <;> omega
  obtain ⟨j, hj⟩ := exists_free_number s hrange
  exact freeNumber_free s 15 s.nextCall (j + 1) (by omega) hj

theorem freeNumber_of_pointer_free {s : State} (h : s.numberHeld s.nextCall = false) :
    s.freeNumber 15 s.nextCall = s.nextCall := freeNumber_of_first (m := 0) (Nat.zero_le 15) nofun h

/-! ### One opening (R122 to R124) -/

theorem openNext_of_closed {s : State} (h : ¬ (s.slotsInUse < s.params.window ∧ s.controllerOpen = true)) :
    s.openNext = none := if_neg h

theorem openNext_of_noCandidate {s : State} (h : s.openCandidate = none) : s.openNext = none := by
  simp only [State.openNext, h, ite_self]

theorem openNext_of_noIdle {s : State} (h : s.lowestIdle = none) : s.openNext = none := by
  unfold State.openNext
  rw [h]
  cases s.openCandidate <;> exact ite_self none

theorem openNext_of_first {s : State} {r : Fin 24} {x : Record} {kind : ServiceKind} {k : Fin 4}
    (hwindow : s.slotsInUse < s.params.window) (hopen : s.controllerOpen = true) (hr : s.openCandidate = some r)
    (hk : s.lowestIdle = some k) (hx : s.record r = some x) (hkind : s.openKind r = some kind) :
    s.openNext = some (s.openSlot k r x kind) := by
  rw [State.openNext, if_pos ⟨hwindow, hopen⟩]
  simp only [hr, hk, hx, hkind]

theorem openNext_eq_some {s t : State} (h : s.openNext = some t) :
    s.slotsInUse < s.params.window ∧ s.controllerOpen = true ∧ ∃ r x kind k, s.record r = some x ∧
      s.chosenKind x = some kind ∧ ApproachFree s x.approach ∧ s.lowestIdle = some k ∧ t = s.openSlot k r x kind := by
  unfold State.openNext at h
  split at h
  case isFalse => exact nomatch h
  case isTrue hopen =>
    split at h
    case h_2 => exact nomatch h
    case h_1 r k hr hk =>
      split at h
      case h_2 => exact nomatch h
      case h_1 x kind hx hkind =>
        obtain ⟨y, hy, hchosen, hfree⟩ := openKind_eq_some hkind
        obtain rfl := Option.some.inj (hx.symm.trans hy)
        exact ⟨hopen.1, hopen.2, r, x, kind, k, hx, hchosen, hfree, hk, (Option.some.inj h).symm⟩

/-- The state in which a slot has been opened, its CALL counted and the mark set, before the others on the approach join. -/
def callPlaced (s : State) (k : Fin 4) (r : Fin 24) (x : Record) (kind : ServiceKind) : State :=
  ((opened s k r x kind).count (.approach x.approach .calls)).markDue

section CallPlaced

variable (s : State) (k : Fin 4) (r : Fin 24) (x : Record) (kind : ServiceKind)

theorem slot_callPlaced (j : Fin 4) :
    (callPlaced s k r x kind).slot j = if j = k then openedSlot s r x kind else s.slot j := by
  rw [callPlaced, slot_of_view (slotView_markDue _), slot_count, slot_opened]

theorem output_opened :
    (opened s k r x kind).output = s.output ++
      [{ kind := .call, call := s.freeNumber 15 s.nextCall, group := (s.approach x.approach).phaseGroup
         code := some kind, duration := (s.approach x.approach).durationOf kind }] := by
  simp only [opened, State.placeAndWait, State.place, State.compose, setSlotTimer_output, setRecord_output,
    setSlot_output, slot_setRecord, slot_setSlot_same, approach_setRecord, approach_setSlot, openedSlot, pointed]
  rfl

theorem opened_eq :
    opened s k r x kind =
      { s with nextCall := nextNumber (s.freeNumber 15 s.nextCall)
               slots := s.slots.set k (openedSlot s r x kind)
               records := s.records.set r (some { x with state := .called, callSlot := some k })
               output := (opened s k r x kind).output
               slotTimers := s.slotTimers.set k
                 (some { kind := .response, left := s.params.responseTimeout }) } := by
  simp only [opened, State.placeAndWait, State.place, State.setSlotTimer, State.setRecord, State.setSlot, pointed]

theorem output_callPlaced : (callPlaced s k r x kind).output = (opened s k r x kind).output := by
  rw [callPlaced, markDue_output, count_output]

theorem nextCall_callPlaced :
    (callPlaced s k r x kind).nextCall = nextNumber (s.freeNumber 15 s.nextCall) := by
  rw [callPlaced, markDue_nextCall, count_nextCall, opened_nextCall]

theorem slotTimer_callPlaced :
    (callPlaced s k r x kind).slotTimer k = some { kind := .response, left := s.params.responseTimeout } := by
  rw [callPlaced, slotTimer_of_view (slotView_markDue _), slotTimer_of_view (slotView_count _ _), slotTimer_opened,
    if_pos rfl]

theorem calls_callPlaced :
    (callPlaced s k r x kind).counters.get (.approach x.approach .calls) =
      s.counters.get (.approach x.approach .calls) + 1 := by
  have hsame : (opened s k r x kind).counters = s.counters := by
    simp only [opened, State.placeAndWait, State.place, setSlotTimer_counters, setRecord_counters, setSlot_counters,
      pointed]
  rw [callPlaced, markDue_counters, get_count_same, hsame]

theorem openSlot_eq_forEach :
    s.openSlot k r x kind =
      forEach ((callPlaced s k r x kind).candidates.filter
          (fun q => ((callPlaced s k r x kind).record q).any (fun z => z.approach = x.approach)))
        (fun q t => t.tryJoin q) (callPlaced s k r x kind) := rfl

/-- The other records on the approach join the slot opened for it. -/
theorem joined_openSlot (hfree : ApproachFree s x.approach) :
    Joined k (callPlaced s k r x kind) (s.openSlot k r x kind) := by
  rw [openSlot_eq_forEach]
  refine joined_forEach (ap := x.approach) _ (fun j hopen hap => ?_) fun q hq z hz => ?_
  · by_contra hj
    rw [slot_callPlaced, if_neg hj] at hopen hap
    exact (hfree j ((isOpen_iff _).mp hopen).1 x.approach hap).1 rfl
  · have hany := (List.mem_filter.mp hq).2
    rw [Option.mem_def.mp hz] at hany
    exact of_decide_eq_true hany

end CallPlaced

/-- Settles O35: what the opening writes, and that the joins after it write only members. -/
theorem openingSetsSlot : Obligations.OpeningSetsSlot := by
  intro s t h
  obtain ⟨hwindow, hopen, r, x, kind, k, hx, hkind, hfree, hk, ht⟩ := openNext_eq_some h
  obtain ⟨hready, hresp, hknown⟩ := (controllerOpen_iff s).mp hopen
  obtain ⟨hidle, hlowest⟩ := (lowestIdle_eq_some_iff s k).mp hk
  have hjoined := joined_openSlot s k r x kind hfree
  rw [← ht] at hjoined
  obtain ⟨ms, hslot⟩ := hjoined.slot
  rw [slot_callPlaced, if_pos rfl] at hslot
  have hheld := freeNumber_not_held_any s
  refine ⟨hwindow, hready, hresp, hknown, r, x, kind, k, s.freeNumber 15 s.nextCall, hx,
    waiting_of_eligible (eligible_of_chosenKind hkind), hkind, hfree, hidle, hlowest, fun j hj hcall => ?_,
    fun hnone => freeNumber_of_pointer_free ?_, ?_⟩
  · exact nomatch hheld.symm.trans ((numberHeld_iff s _).mpr ⟨j, hj, hcall⟩)
  · refine Bool.eq_false_iff.mpr fun hnumber => ?_
    obtain ⟨j, hj, hcall⟩ := (numberHeld_iff s _).mp hnumber
    exact hnone j hj hcall
  · rw [hslot]
    refine ⟨rfl, rfl, rfl, rfl, by cases kind <;> rfl, rfl, rfl, rfl, fun j hj => ?_, ?_, ?_, ?_, ?_⟩
    · rw [hjoined.others j hj, slot_callPlaced, if_neg hj]
    · exact hjoined.nextCall.trans (nextCall_callPlaced s k r x kind)
    · exact (hjoined.output.trans (output_callPlaced s k r x kind)).trans (output_opened s k r x kind)
    · rw [State.slotTimer, hjoined.slotTimers]
      exact slotTimer_callPlaced s k r x kind
    · rw [hjoined.counters]
      exact calls_callPlaced s k r x kind

/-! ### Openings one after another (R117) -/

/-- The IDLE slots. -/
def idleSlots (s : State) : Finset (Fin 4) := Finset.univ.filter (fun j => (s.slot j).state = .idle)

theorem mem_idleSlots (s : State) (j : Fin 4) : j ∈ idleSlots s ↔ (s.slot j).state = .idle := by
  simp only [idleSlots, Finset.mem_filter, Finset.mem_univ, true_and]

/-- An opening takes an IDLE slot and frees none. -/
theorem idleSlots_openNext {s t : State} (h : s.openNext = some t) : idleSlots t ⊂ idleSlots s := by
  obtain ⟨_, _, r, x, kind, k, _, _, hfree, hk, ht⟩ := openNext_eq_some h
  have hjoined := joined_openSlot s k r x kind hfree
  rw [← ht] at hjoined
  have hsame := hjoined.same
  refine (Finset.ssubset_iff_of_subset fun j hj => ?_).mpr ⟨k, (mem_idleSlots s k).mpr (lowestIdle_some hk), ?_⟩
  · rw [mem_idleSlots, (hsame j).1, slot_callPlaced] at hj
    split at hj
    case isTrue => exact nomatch hj
    case isFalse => exact (mem_idleSlots s j).mpr hj
  · rw [mem_idleSlots, (hsame k).1, slot_callPlaced, if_pos rfl]
    exact nofun

theorem openNext_of_idleSlots_empty {s : State} (h : idleSlots s = ∅) : s.openNext = none := by
  refine openNext_of_noIdle (List.find?_eq_none.mpr fun j _ hj => ?_)
  have hmem : j ∈ idleSlots s := (mem_idleSlots s j).mpr (of_decide_eq_true hj)
  rw [h] at hmem
  exact Finset.notMem_empty j hmem

theorem opening_of_none {s : State} (n : Nat) (h : s.openNext = none) : State.opening (n + 1) s = s := by
  simp only [State.opening, h]

theorem opening_of_some {s t : State} (n : Nat) (h : s.openNext = some t) :
    State.opening (n + 1) s = State.opening n t := by
  simp only [State.opening, h]

/-- As many rounds as there are IDLE slots leave no opening to make. -/
theorem openNext_opening (n : Nat) {s : State} (h : (idleSlots s).card ≤ n) : (State.opening n s).openNext = none := by
  induction n generalizing s with
  | zero => exact openNext_of_idleSlots_empty (Finset.card_eq_zero.mp (Nat.le_zero.mp h))
  | succ n ih =>
    cases hnext : s.openNext with
    | none => rw [opening_of_none n hnext, hnext]
    | some t =>
      rw [opening_of_some n hnext]
      have hfewer := Finset.card_lt_card (idleSlots_openNext hnext)
      exact ih (by omega)

/-- Settles O34: a join by the slot that holds the approach, an opening by the conditions of R122 and the searches of
R123. -/
theorem joinsAndOpeningsMadeInOrder : Obligations.JoinsAndOpeningsMadeInOrder := by
  refine ⟨fun s => rfl,
    fun s r => ⟨tryJoin_of_free, fun x hx => ⟨fun hnone => ?_, fun k kind hopen hap hkind hfirst => ?_⟩⟩,
    fun s n => ⟨rfl, opening_of_none n, fun t => opening_of_some n⟩, fun s => ?_, fun s => ?_⟩
  · exact tryJoin_of_noSlot hx (openSlotOf_eq_none hnone)
  · rw [tryJoin_of_slot hx (openSlotOf_of_first hopen hap hfirst) hkind]
    exact ⟨fun hnot => if_neg (Bool.eq_false_iff.mp hnot), fun heligible => if_pos heligible⟩
  · exact openNext_opening 4 (Finset.card_le_univ _)
  · intro inUse controllerOpen can
    have hinUse : s.slotsInUse = inUse := slotsInUse_eq s
    have hcontroller : s.controllerOpen = true ↔ controllerOpen := controllerOpen_iff s
    refine ⟨fun h => ?_, fun earlier later r x kind k m => ?_⟩
    · rcases h with hclosed | hfull | hnone
      · exact openNext_of_closed fun h => hclosed (hcontroller.mp h.2)
      · exact openNext_of_closed fun h => absurd h.1 (by omega)
      · exact openNext_of_noCandidate (openCandidate_of_none hnone)
    · intro hopen hwindow hlist hearlier hr hx hchosen hidle hlowest number given hlow hhigh hm hheld hfree
      have hnumber : s.freeNumber 15 s.nextCall = number m :=
        freeNumber_of_given hlow hhigh hm (fun i hi => (numberHeld_iff s _).mpr (hheld i hi))
          (Bool.eq_false_iff.mpr fun h => hfree ((numberHeld_iff s _).mp h))
      have hnext : nextNumber (number m) = number m % 15 + 1 :=
        nextNumber_eq_mod (Nat.le_add_left 1 _) (Nat.mod_lt _ (by decide))
      have hfreeApproach : ApproachFree s x.approach := by
        obtain ⟨y, hy, _, hfree⟩ := hr
        rwa [Option.some.inj (hx.symm.trans hy)]
      have hopened := openNext_of_first (hinUse.trans_lt hwindow) (hcontroller.mpr hopen)
        (openCandidate_of_first hlist hearlier hr) ((lowestIdle_eq_some_iff s k).mpr ⟨hidle, hlowest⟩) hx
        ((openKind_of_free hx hfreeApproach).trans hchosen)
      intro e duration y call response u v
      have hduration : e.durationOf kind = duration := by cases kind <;> rfl
      have hplaced : opened s k r x kind = u := by
        rw [opened_eq, output_opened, openedSlot, hnumber, hnext, hduration]
      rw [hopened, openSlot_eq_forEach, callPlaced, hplaced]
      rfl

end Sys2Proof.CallArbitration
end

section
/-! The CALLs on their way to the controller: no shared operation but an opening places one (R122, R127, R130, R134, R135,
R139). -/

namespace Sys2Proof.CallArbitration

open Sys2Proof.Machine Sys2Proof.Safety Sys2Proof.Laws Sys2Proof.LoadedTables Sys2Proof.RequestTable

/-- The number of CALLs in the output. -/
def callsOut (s : State) : Nat := (s.output.filter (fun m => m.kind = .call)).length

theorem callsOut_of_output {s t : State} (h : t.output = s.output) : callsOut t = callsOut s := by
  rw [callsOut, callsOut, h]

/-- Messages that are no CALL leave the number of CALLs. -/
theorem callsOut_of_append {s t : State} {ms : List CtrlMessage} (h : t.output = s.output ++ ms)
    (hms : ∀ m ∈ ms, m.kind ≠ .call) : callsOut t = callsOut s := by
  have hnone : ms.filter (fun m => m.kind = .call) = [] :=
    List.filter_eq_nil_iff.mpr fun m hm => by simpa using hms m hm
  rw [callsOut, callsOut, h, List.filter_append, hnone, List.append_nil]

theorem callsOut_ite {c : Prop} [Decidable c] {s t u : State} (ht : callsOut t = callsOut s)
    (hu : callsOut u = callsOut s) : callsOut (if c then t else u) = callsOut s := by
  split
  · exact ht
  · exact hu

theorem callsOut_forEach {α : Type} (f : α → State → State) (hf : ∀ x t, callsOut (f x t) = callsOut t)
    (xs : List α) (s : State) : callsOut (forEach xs f s) = callsOut s :=
  forEach_keeps (P := fun t => callsOut t = callsOut s) f (fun x t ht => (hf x t).trans ht) xs rfl

/-! ### Operations on one register -/

@[simp] theorem callsOut_raise (s : State) (c : Condition) : callsOut (s.raise c) = callsOut s :=
  callsOut_of_output (raise_output s c)

@[simp] theorem callsOut_count (s : State) (ref : CounterRef) : callsOut (s.count ref) = callsOut s :=
  callsOut_of_output (count_output s ref)

@[simp] theorem callsOut_markDue (s : State) : callsOut s.markDue = callsOut s :=
  callsOut_of_output (markDue_output s)

@[simp] theorem callsOut_endEvent (s : State) : callsOut s.endEvent = callsOut s :=
  callsOut_of_output (endEvent_output s)

@[simp] theorem callsOut_setPort (s : State) (p : Port) (x : PortState) : callsOut (s.setPort p x) = callsOut s :=
  callsOut_of_output (setPort_output s p x)

@[simp] theorem callsOut_setLine (s : State) (l : Fin 8) (x : LineState) : callsOut (s.setLine l x) = callsOut s := rfl

@[simp] theorem callsOut_setRecord (s : State) (r : Fin 24) (x : Option Record) :
    callsOut (s.setRecord r x) = callsOut s := rfl

@[simp] theorem callsOut_setSlot (s : State) (k : Fin 4) (x : CallSlot) : callsOut (s.setSlot k x) = callsOut s := rfl

@[simp] theorem callsOut_setSlotTimer (s : State) (k : Fin 4) (t : Option SlotTimer) :
    callsOut (s.setSlotTimer k t) = callsOut s := rfl

@[simp] theorem callsOut_setLockout (s : State) (ap : Fin 8) (t : Option Nat) :
    callsOut (s.setLockout ap t) = callsOut s := rfl

@[simp] theorem callsOut_setController (s : State) (c : Controller) : callsOut (s.setController c) = callsOut s := rfl

@[simp] theorem callsOut_setReceiver (s : State) (p : Port) (r : Receiver) :
    callsOut (s.setReceiver p r) = callsOut s := callsOut_setPort s p _

@[simp] theorem callsOut_evalFlow (s : State) (p : Port) : callsOut (s.evalFlow p) = callsOut s :=
  callsOut_of_output (evalFlow_output s p)

@[simp] theorem callsOut_setQueue (s : State) (p : Port) (q : List QueuedFrame) :
    callsOut (s.setQueue p q) = callsOut s := callsOut_of_output (setQueue_output s p q)

@[simp] theorem callsOut_enqueue (s : State) (p : Port) (f : QueuedFrame) : callsOut (s.enqueue p f) = callsOut s :=
  callsOut_of_output (enqueue_output s p f)

@[simp] theorem callsOut_alertGone (s : State) : callsOut s.alertGone = callsOut s := rfl

@[simp] theorem callsOut_reply (s : State) (x : InboundFrame) (a : Answer) : callsOut (s.reply x a) = callsOut s :=
  callsOut_of_output (by rw [reply_frame])

@[simp] theorem callsOut_sendNotice (s : State) (ap : Fin 8) (vehicle route : Nat) (direction : Bool)
    (late : Option Int) : callsOut (s.sendNotice ap vehicle route direction late) = callsOut s :=
  callsOut_of_output (by rw [sendNotice_frame])

@[simp] theorem callsOut_flowAfter (s : State) (old : Params) (p : Port) : callsOut (s.flowAfter old p) = callsOut s :=
  callsOut_of_output (by rw [flowAfter_frame])

/-! ### Call slots and their members -/

/-- What a slot that closes places is CANCEL or RELEASE (R127, R130, R135). -/
@[simp] theorem callsOut_closeSlot (s : State) (k : Fin 4) (cause : CloseCause) :
    callsOut (s.closeSlot k cause) = callsOut s := by
  refine callsOut_of_append (closeSlot_output s k cause) fun m hm => ?_
  obtain rfl := List.mem_singleton.mp hm
  dsimp only
  split <;> exact nofun

@[simp] theorem callsOut_idleSlot (s : State) (k : Fin 4) : callsOut (s.idleSlot k) = callsOut s :=
  callsOut_of_output (by rw [idleSlot_frame])

@[simp] theorem callsOut_returnMembers (s : State) (ms : List (Fin 24)) (holdOff : Option Nat)
    (exclude : Option ServiceKind) : callsOut (s.returnMembers ms holdOff exclude) = callsOut s :=
  callsOut_of_output (by rw [returnMembers_frame])

@[simp] theorem callsOut_closeReturning (s : State) (k : Fin 4) (cause : CloseCause) :
    callsOut (s.closeReturning k cause) = callsOut s := by
  simp [State.closeReturning]

@[simp] theorem callsOut_idleReturning (s : State) (k : Fin 4) (holdOff : Option Nat) (exclude : Option ServiceKind) :
    callsOut (s.idleReturning k holdOff exclude) = callsOut s := by
  simp [State.idleReturning]

@[simp] theorem callsOut_advanceSlot (s : State) (k : Fin 4) (st : SlotState) :
    callsOut (s.advanceSlot k st) = callsOut s :=
  callsOut_of_output (by rw [advanceSlot_frame])

@[simp] theorem callsOut_takeOut (s : State) (r : Fin 24) (outcome : ApproachCounter) :
    callsOut (s.takeOut r outcome) = callsOut s :=
  callsOut_of_output (by rw [takeOut_frame])

@[simp] theorem callsOut_leaveSlot (s : State) (k : Fin 4) (r : Fin 24) (cause : CloseCause) :
    callsOut (s.leaveSlot k r cause) = callsOut s :=
  callsOut_ite (callsOut_closeSlot s k cause) rfl

@[simp] theorem callsOut_removeRecord (s : State) (r : Fin 24) (outcome : ApproachCounter) (cause : CloseCause) :
    callsOut (s.removeRecord r outcome cause) = callsOut s := by
  unfold State.removeRecord
  split
  · rfl
  · split <;> simp

/-! ### An evaluation (R117) -/

theorem openNext_of_controllerClosed {s : State} (h : s.controllerOpen = false) : s.openNext = none :=
  openNext_of_closed fun hopen => nomatch h.symm.trans hopen.2

theorem tryJoin_frame (s : State) (r : Fin 24) :
    s.tryJoin r = { s with slots := (s.tryJoin r).slots, records := (s.tryJoin r).records } := by
  rcases tryJoin_cases s r with he | ⟨k, x, he, _⟩ <;> rw [he]
  rfl

theorem joining_frame (s : State) : s.joining = { s with slots := s.joining.slots, records := s.joining.records } := by
  refine forEach_keeps (P := fun t => t = { s with slots := t.slots, records := t.records }) _ (fun r t ht => ?_)
    s.candidates rfl
  have hone := tryJoin_frame t r
  generalize t.tryJoin r = u at hone ⊢
  rw [hone, ht]

@[simp] theorem callsOut_preemptSlot (s : State) (k : Fin 4) : callsOut (s.preemptSlot k) = callsOut s := by
  unfold State.preemptSlot
  dsimp only
  split <;> simp

/-- While the controller is closed an evaluation opens no slot, so it places no CALL. -/
theorem callsOut_evaluate {s : State} (h : s.controllerOpen = false) : callsOut s.evaluate = callsOut s := by
  have hclosed : s.joining.controllerOpen = false := by
    rw [joining_frame]
    exact h
  have hopening : State.opening 4 s.joining = s.joining := opening_of_none 3 (openNext_of_controllerClosed hclosed)
  calc callsOut s.evaluate
      = callsOut s.joining.preemption := by rw [State.evaluate, hopening]
    _ = callsOut s.joining := callsOut_forEach _ (fun k t => callsOut_preemptSlot t k) _ _
    _ = callsOut s := callsOut_of_output (by rw [joining_frame])

/-! ### The corridor ports and the beacon lines -/

@[simp] theorem callsOut_relay (s : State) (p : Port) (f : LinkFrame) : callsOut (s.relay p f) = callsOut s :=
  callsOut_ite (by simp) (callsOut_ite (by simp) (callsOut_ite (by simp) (by simp)))

@[simp] theorem callsOut_route (s : State) (p : Port) (f : LinkFrame) : callsOut (s.route p f) = callsOut s :=
  have hconsume : callsOut (s.consume p f) = callsOut s := callsOut_ite rfl (by simp)
  callsOut_ite hconsume (callsOut_ite (by simp [hconsume]) (by simp))

@[simp] theorem callsOut_dealByKind (s : State) (p : Port) (f : LinkFrame) : callsOut (s.dealByKind p f) = callsOut s :=
  callsOut_ite rfl (callsOut_ite (by simp [State.takeHold]) (callsOut_ite (callsOut_ite (by simp) rfl) (by simp)))

@[simp] theorem callsOut_takeFrame (s : State) (p : Port) (res : RxResult) : callsOut (s.takeFrame p res) = callsOut s := by
  cases res <;> simp [State.takeFrame, State.heardFrame]

@[simp] theorem callsOut_frameResult (s : State) (p : Port) (res : RxResult) :
    callsOut (s.frameResult p res) = callsOut s := by
  unfold State.frameResult
  dsimp only
  split
  case h_1 | h_3 => simp
  case h_2 => exact callsOut_ite (by simp) (by simp)

theorem callsOut_startChosen {s t : State} {p : Port} {c : TxChoice} (h : s.startChosen p c = some t) :
    callsOut t = callsOut s := by
  cases c with
  | control c =>
    obtain rfl := Option.some.inj h
    cases c <;> simp [State.startControl]
  | queued f =>
    obtain rfl := Option.some.inj h
    simp [State.startQueued]
  | fill =>
    obtain rfl := Option.some.inj h
    simp [State.startFill]
  | nothing => exact nomatch h

@[simp] theorem callsOut_dropSent (s : State) (p : Port) : callsOut (s.dropSent p) = callsOut s := by
  unfold State.dropSent
  split
  · rfl
  · exact callsOut_ite (by simp) (by simp)

@[simp] theorem callsOut_disablePort (s : State) (p : Port) : callsOut (s.disablePort p).1 = callsOut s := by
  unfold State.disablePort
  dsimp only
  split
  · simp
  · rfl

@[simp] theorem callsOut_enablePort (s : State) (p : Port) : callsOut (s.enablePort p).1 = callsOut s := by
  unfold State.enablePort
  dsimp only
  split
  · rfl
  · simp

@[simp] theorem callsOut_resetPort (s : State) (p : Port) : callsOut (s.resetPort p).1 = callsOut s := by
  have hflush := callsOut_forEach (fun f t => t.flushFrame p f) (fun f t => callsOut_ite (by simp) (by simp))
    (s.port p).queue s
  unfold State.resetPort
  split
  · simp [hflush]
  · rfl

@[simp] theorem callsOut_faulted (s : State) (l : Fin 8) : callsOut (s.faulted l) = callsOut s :=
  callsOut_ite (by simp) (by simp)

@[simp] theorem callsOut_offerReport (s : State) (l : Fin 8) (rep : Report) :
    callsOut (s.offerReport l rep) = callsOut s :=
  callsOut_ite (by simp) (by simp)

@[simp] theorem callsOut_dealReport (s : State) (l : Fin 8) (c : ReportClass) :
    callsOut (s.dealReport l c) = callsOut s := by
  have hsuspect (t : State) (rep : Report) : callsOut (t.offerSuspect l rep) = callsOut t :=
    callsOut_ite (by simp) (by simp)
  cases c with
  | framing | checksum | clean => simp [State.dealReport]
  | parity rep => exact callsOut_ite (by simp [hsuspect]) (by simp)

@[simp] theorem callsOut_drainReport (s : State) (l : Fin 8) (c : ReportClass) :
    callsOut (s.drainReport l c) = callsOut s := by
  cases c with
  | framing | checksum | clean => simp [State.drainReport, State.drainCount, State.enterDisabled]
  | parity rep => exact callsOut_ite (by simp) (by simp)

@[simp] theorem callsOut_reportEnded (s : State) (l : Fin 8) (c : ReportClass) :
    callsOut (s.reportEnded l c) = callsOut s := by
  unfold State.reportEnded
  dsimp only
  split <;> simp

@[simp] theorem callsOut_disableLine (s : State) (l : Fin 8) : callsOut (s.disableLine l).1 = callsOut s := by
  unfold State.disableLine
  dsimp only
  split <;> simp [State.enterDisabled]

@[simp] theorem callsOut_enableLine (s : State) (l : Fin 8) : callsOut (s.enableLine l).1 = callsOut s := by
  unfold State.enableLine
  dsimp only
  split <;> simp

/-! ### The request table (R87 to R103) -/

@[simp] theorem callsOut_createIn (s : State) (r : Fin 24) (x : Record) : callsOut (s.createIn r x) = callsOut s := by
  simp [State.createIn]

@[simp] theorem callsOut_dropFull (s : State) : callsOut s.dropFull = callsOut s := by
  simp [State.dropFull]

@[simp] theorem callsOut_checkInNew (s : State) (rep : Report) (ap : Fin 8) :
    callsOut (s.checkInNew rep ap) = callsOut s := by
  have hcreate (x : Record) : callsOut (s.createOrDisplace x) = callsOut s := by
    unfold State.createOrDisplace
    split
    · simp
    · split <;> simp
  unfold State.checkInNew
  split
  · simp
  · exact hcreate _

@[simp] theorem callsOut_checkInFound (s : State) (rep : Report) (ap : Fin 8) (r : Fin 24) (x : Record) :
    callsOut (s.checkInFound rep ap r x) = callsOut s := by
  refine callsOut_ite ?_ (callsOut_setRecord ..)
  split <;> simp

@[simp] theorem callsOut_takeCheckIn (s : State) (rep : Report) (ap : Fin 8) :
    callsOut (s.takeCheckIn rep ap) = callsOut s := by
  unfold State.takeCheckIn
  dsimp only
  split
  · simp
  · refine callsOut_ite (by simp) ?_
    split <;> simp

@[simp] theorem callsOut_takeCheckOut (s : State) (rep : Report) (ap : Fin 8) :
    callsOut (s.takeCheckOut rep ap) = callsOut s := by
  have hremove (t : State) (v : Nat) : callsOut (t.removeCheckedOut v) = callsOut t := by
    unfold State.removeCheckedOut
    split
    · rfl
    · split <;> simp
  exact callsOut_ite (by simp [hremove]) (by simp [hremove])

@[simp] theorem callsOut_takeCancel (s : State) (rep : Report) : callsOut (s.takeCancel rep) = callsOut s := by
  refine callsOut_ite rfl ?_
  split <;> simp

@[simp] theorem callsOut_handReport (s : State) (rep : Report) : callsOut (s.handReport rep) = callsOut s := by
  unfold State.handReport
  split
  case h_3 => simp
  all_goals split <;> simp

@[simp] theorem callsOut_takeNotice (s : State) (n : NoticeArrival) (ap : Fin 8) :
    callsOut (s.takeNotice n ap) = callsOut s := by
  have hnew (t : State) : callsOut (t.noticeNew n ap) = callsOut t := by
    unfold State.noticeNew
    split
    · simp
    · split <;> simp
  have hfound (t : State) (r : Fin 24) (x : Record) : callsOut (t.noticeFound n r x) = callsOut t :=
    callsOut_ite (by simp) (by simp)
  unfold State.takeNotice
  dsimp only
  split
  · simp [hnew]
  · split <;> simp [hfound]

@[simp] theorem callsOut_noticeFrameTaken (s : State) (f : LinkFrame) : callsOut (s.noticeFrameTaken f) = callsOut s := by
  refine callsOut_ite ?_ rfl
  split
  · simp
  · split <;> simp

/-! ### The phase port (R144 to R156) -/

@[simp] theorem callsOut_messageDone (s : State) : callsOut s.messageDone = callsOut s := rfl

@[simp] theorem callsOut_validMessage (s : State) : callsOut s.validMessage = callsOut s :=
  callsOut_ite (by simp) (by simp)

@[simp] theorem callsOut_stray (s : State) : callsOut s.stray = callsOut s := callsOut_count s _

@[simp] theorem callsOut_countOnSlot (s : State) (k : Fin 4) (c : ApproachCounter) :
    callsOut (s.countOnSlot k c) = callsOut s := by
  unfold State.countOnSlot
  split <;> simp

@[simp] theorem callsOut_acceptFor (s : State) (k : Fin 4) : callsOut (s.acceptFor k) = callsOut s := by
  unfold State.acceptFor
  split <;> simp

@[simp] theorem callsOut_startFor (s : State) (k : Fin 4) : callsOut (s.startFor k) = callsOut s := by
  unfold State.startFor
  split <;> simp [State.beginService]

@[simp] theorem callsOut_denySlot (s : State) (k : Fin 4) (reason : DenyReason) :
    callsOut (s.denySlot k reason) = callsOut s := by
  simp [State.denySlot]

@[simp] theorem callsOut_denyFor (s : State) (k : Fin 4) (reason : DenyReason) :
    callsOut (s.denyFor k reason) = callsOut s := by
  unfold State.denyFor
  split <;> simp

@[simp] theorem callsOut_endFor (s : State) (k : Fin 4) (reason : EndReason) :
    callsOut (s.endFor k reason) = callsOut s := by
  have hserving : callsOut (s.endServing k reason) = callsOut s := by
    unfold State.endServing
    dsimp only
    split <;> simp
  unfold State.endFor
  split <;> simp [hserving]

theorem callsOut_forCall (s : State) (n : Nat) (act : Fin 4 → State → State)
    (hact : ∀ k t, callsOut (act k t) = callsOut t) : callsOut (s.forCall n act) = callsOut s := by
  unfold State.forCall
  split
  · simp
  · exact hact _ s

@[simp] theorem callsOut_responseMissed (s : State) : callsOut s.responseMissed = callsOut s :=
  (callsOut_ite (by simp) (by simp)).trans (callsOut_count s (.controller .timeouts))

/-! ### The requests -/

@[simp] theorem callsOut_retire (s : State) (ap : Fin 8) : callsOut (s.retire ap) = callsOut s := by
  have hrecords : callsOut (s.retireRecords ap) = callsOut s := callsOut_of_output (retireRecords_output s ap)
  unfold State.retire
  dsimp only
  split
  · exact hrecords
  · simp [hrecords]

@[simp] theorem callsOut_storeApproach (s : State) (ap : Fin 8) (e : ApproachEntry) :
    callsOut (s.storeApproach ap e) = callsOut s := rfl

@[simp] theorem callsOut_storeParams (s : State) (e : Params) : callsOut (s.storeParams e) = callsOut s := rfl

/-- A write leaves the output, but for the message of a slot it retires. -/
@[simp] theorem callsOut_stored (s : State) (t : Table) (i : Nat) (contents : List Byte) :
    callsOut (stored s t i contents) = callsOut s := by
  cases t with
  | approach =>
    simp only [stored, callsOut_markDue, callsOut_storeApproach]
    exact callsOut_ite (callsOut_retire s _) rfl
  | route | conflicts => rfl
  | params => simp only [stored, callsOut_markDue, callsOut_flowAfter, callsOut_storeParams]

theorem callsOut_writeEntryRequest (b : List Byte) (s : State) : callsOut (writeEntryRequest b s).1 = callsOut s := by
  unfold writeEntryRequest
  split
  · rfl
  case h_2 t _ =>
    dsimp only
    split_ifs
    · rfl
    · rfl
    · rfl
    · rcases writeContents_answers s t (byteAt b 2) (byteAt b 5 = 1) ((b.drop 6).take (t.contentLength (b.drop 6)))
        with ⟨_, _, he⟩ | he <;> rw [he]
      exact callsOut_stored s t _ _

theorem givingUp_ne_call (st : SlotState) : st.givingUp ≠ .call := by
  cases st <;> exact nofun

/-- What a DECOMMISSION places is CANCEL or RELEASE (R134). -/
@[simp] theorem callsOut_decommission (s : State) : callsOut s.decommission = callsOut s := by
  refine callsOut_of_append (output_decommission s) fun m hm => ?_
  obtain ⟨k, _, hk⟩ := List.mem_flatMap.mp hm
  unfold giveUpMessages at hk
  split at hk
  · rw [List.mem_singleton.mp hk]
    exact givingUp_ne_call _
  · exact nomatch hk

theorem callsOut_decommissionRequest (b : List Byte) (s : State) :
    callsOut (decommissionRequest b s).1 = callsOut s := by
  unfold decommissionRequest
  split
  · exact callsOut_decommission s
  · rfl

theorem callsOut_commissionRequest (b : List Byte) (s : State) : callsOut (commissionRequest b s).1 = callsOut s := by
  unfold commissionRequest
  split
  · split <;> rfl
  · rfl

theorem callsOut_withdrawRequest (b : List Byte) (s : State) : callsOut (withdrawRequest b s).1 = callsOut s := by
  unfold withdrawRequest
  split
  · rfl
  · split
    · rfl
    · exact callsOut_removeRecord s _ _ _

theorem callsOut_readCountersRequest (b : List Byte) (s : State) : callsOut (readCountersRequest b s).1 = callsOut s := by
  unfold readCountersRequest
  split
  · rfl
  · split
    · rfl
    · dsimp only
      split <;> rfl

theorem callsOut_portControl (action : Nat) (act : Port → State → State × Status)
    (hact : ∀ p t, callsOut (act p t).1 = callsOut t) (b : List Byte) (s : State) :
    callsOut (portControl action act b s).1 = callsOut s := by
  unfold portControl
  split
  · rfl
  · split
    · rfl
    · exact hact _ s

theorem callsOut_lineControl (action : Nat) (act : Fin 8 → State → State × Status)
    (hact : ∀ l t, callsOut (act l t).1 = callsOut t) (b : List Byte) (s : State) :
    callsOut (lineControl action act b s).1 = callsOut s := by
  unfold lineControl
  split
  · rfl
  · split
    · rfl
    · exact hact _ s

theorem callsOut_takeHead {s t : State} {row : HandlerRow} {x : InboundFrame} (h : s.takeHead row = some (x, t)) :
    callsOut t = callsOut s := by
  unfold State.takeHead at h
  split at h
  · exact nomatch h
  · split at h
    · obtain ⟨_, rfl⟩ := Prod.mk.inj (Option.some.inj h)
      rfl
    · exact nomatch h

end Sys2Proof.CallArbitration
end

section
/-! No command but an evaluation taken while the controller is open places a CALL (R122, R140, R142, R156). -/

namespace Sys2Proof.CallArbitration

open Sys2Proof.Machine Sys2Proof.Safety Sys2Proof.Laws Sys2Proof.LoadedTables Sys2Proof.RequestTable

/-! ### What a command answers -/

/-- Whatever state an outcome answers, it has no more CALLs in its output. -/
def PlacesNoCall (s : State) (o : Host.Outcome State Fault Refusal) : Prop :=
  ∀ t, o = .next t → callsOut t ≤ callsOut s

theorem placesNoCall_noEvent (s : State) : PlacesNoCall s (noEvent s) := by
  rintro t ⟨⟩
  exact le_rfl

theorem placesNoCall_taken {s u : State} (h : callsOut u = callsOut s) : PlacesNoCall s (taken u) := by
  rintro t ⟨⟩
  exact ((callsOut_endEvent u).trans h).le

theorem placesNoCall_ite {c : Prop} [Decidable c] {s : State} {o q : Host.Outcome State Fault Refusal}
    (ho : PlacesNoCall s o) (hq : PlacesNoCall s q) : PlacesNoCall s (if c then o else q) := by
  split
  · exact ho
  · exact hq

/-- An event that a test allows. -/
theorem placesNoCall_test {c : Prop} [Decidable c] {s u : State} (h : callsOut u = callsOut s) :
    PlacesNoCall s (if c then taken u else noEvent s) :=
  placesNoCall_ite (placesNoCall_taken h) (placesNoCall_noEvent s)

/-- A request places no CALL when carrying it out places none. -/
theorem placesNoCall_request (row : HandlerRow) (carryOut : List Byte → State → State × Answer)
    (hcarry : ∀ b t, callsOut (carryOut b t).1 = callsOut t) (s : State) : PlacesNoCall s (request row carryOut s) := by
  unfold request
  split
  · exact placesNoCall_noEvent s
  case h_2 htake =>
    exact placesNoCall_taken ((callsOut_reply ..).trans ((hcarry _ _).trans (callsOut_takeHead htake)))

/-- A request that leaves the state as it is. -/
theorem placesNoCall_read (row : HandlerRow) (carryOut : List Byte → State → State × Answer)
    (hcarry : ∀ b t, (carryOut b t).1 = t) (s : State) : PlacesNoCall s (request row carryOut s) :=
  placesNoCall_request row carryOut (fun b t => by rw [hcarry]) s

/-! ### Corridor rows -/

section Corridor

variable (p : Port) (s : State)

theorem placesNoCall_frameStart (more : List SerialChar) : PlacesNoCall s (execFrameStart p more s) := by
  refine placesNoCall_ite ?_ (placesNoCall_noEvent s)
  split
  case h_1 => exact placesNoCall_taken (by simp)
  all_goals exact placesNoCall_noEvent s

theorem placesNoCall_validFrame (chars : List SerialChar) : PlacesNoCall s (execValidFrame p chars s) := by
  unfold execValidFrame
  split
  · exact placesNoCall_taken (by simp)
  · exact placesNoCall_noEvent s

theorem placesNoCall_crcError (chars : List SerialChar) : PlacesNoCall s (execCrcError p chars s) := by
  unfold execCrcError
  split
  · exact placesNoCall_taken (by simp)
  · exact placesNoCall_noEvent s

theorem placesNoCall_lengthError (chars : List SerialChar) : PlacesNoCall s (execLengthError p chars s) := by
  unfold execLengthError
  split
  · exact placesNoCall_taken (by simp)
  · exact placesNoCall_noEvent s

theorem placesNoCall_corridorRxIdle : PlacesNoCall s (execCorridorRxIdle p s) := by
  unfold execCorridorRxIdle
  split <;> exact placesNoCall_taken (by simp)

theorem placesNoCall_txStart : PlacesNoCall s (execTxStart p s) := by
  refine placesNoCall_ite ?_ (placesNoCall_noEvent s)
  split
  case h_1 hstart => exact placesNoCall_taken (callsOut_startChosen hstart)
  case h_2 => exact placesNoCall_noEvent s

theorem placesNoCall_frameTxEnd : PlacesNoCall s (execFrameTxEnd p s) := by
  unfold execFrameTxEnd
  split
  · exact placesNoCall_noEvent s
  · dsimp only
    split <;> exact placesNoCall_taken (by simp [State.freeLine])

theorem placesNoCall_fillTimerExpiry : PlacesNoCall s (execFillTimerExpiry p s) :=
  placesNoCall_ite
    (placesNoCall_ite (placesNoCall_taken (by simp [State.startFill])) (placesNoCall_taken (by simp)))
    (placesNoCall_noEvent s)

theorem placesNoCall_holdTimerExpiry : PlacesNoCall s (execHoldTimerExpiry p s) := by
  unfold execHoldTimerExpiry
  dsimp only
  split
  · exact placesNoCall_noEvent s
  · exact placesNoCall_taken (by simp)

theorem placesNoCall_holdRepeatExpiry : PlacesNoCall s (execHoldRepeatExpiry p s) := by
  unfold execHoldRepeatExpiry
  dsimp only
  split
  · exact placesNoCall_noEvent s
  · exact placesNoCall_taken (by simp)

theorem placesNoCall_silenceTimerExpiry : PlacesNoCall s (execSilenceTimerExpiry p s) := placesNoCall_test (by simp)

theorem placesNoCall_drainComplete : PlacesNoCall s (execDrainComplete p s) := placesNoCall_test (by simp)

end Corridor

/-! ### Beacon rows -/

section Beacon

variable (l : Fin 8) (s : State)

theorem placesNoCall_reportStart (parityBit : Bool) (more : List BeaconChar) :
    PlacesNoCall s (execReportStart l parityBit more s) := by
  refine placesNoCall_ite ?_ (placesNoCall_noEvent s)
  split
  case h_1 => exact placesNoCall_taken (by simp)
  all_goals exact placesNoCall_noEvent s

theorem placesNoCall_reportComplete (chars : List BeaconChar) : PlacesNoCall s (execReportComplete l chars s) := by
  unfold execReportComplete
  split
  case h_1 | h_2 => exact placesNoCall_taken (by simp)
  case h_3 | h_4 => exact placesNoCall_noEvent s

theorem placesNoCall_beaconLineIdle : PlacesNoCall s (execBeaconLineIdle l s) := by
  refine placesNoCall_ite ?_ (placesNoCall_noEvent s)
  split <;> exact placesNoCall_taken (by simp)

theorem placesNoCall_lineDrainComplete (how : ReportEnd) : PlacesNoCall s (execLineDrainComplete l how s) := by
  unfold execLineDrainComplete
  split
  · exact placesNoCall_taken (by simp)
  · split
    · exact placesNoCall_taken (by simp)
    · exact placesNoCall_noEvent s
  · exact placesNoCall_noEvent s

theorem placesNoCall_reportTake : PlacesNoCall s (execReportTake s) := by
  unfold execReportTake
  split
  · exact placesNoCall_noEvent s
  case h_2 l rep _ =>
    have htaken : callsOut ({ s.setLine l { s.line l with buffer := none } with reportPointer := l }.count
        (.beacon l .reportsGood)) = callsOut s :=
      (callsOut_count _ _).trans rfl
    exact placesNoCall_ite (placesNoCall_taken ((callsOut_handReport _ rep).trans htaken)) (placesNoCall_taken htaken)

end Beacon

/-! ### Rows of records, evaluations and lockouts -/

section Records

variable (r : Fin 24) (s : State)

theorem placesNoCall_etaExpiry : PlacesNoCall s (execEtaExpiry r s) := by
  unfold execEtaExpiry
  split
  · exact placesNoCall_noEvent s
  · exact placesNoCall_taken (by simp)

theorem placesNoCall_lifetimeExpiry : PlacesNoCall s (execLifetimeExpiry r s) := by
  unfold execLifetimeExpiry
  split
  · exact placesNoCall_noEvent s
  · exact placesNoCall_taken (by simp)

theorem placesNoCall_holdOffExpiry : PlacesNoCall s (execHoldOffExpiry r s) := by
  unfold execHoldOffExpiry
  split
  · exact placesNoCall_noEvent s
  · split
    · exact placesNoCall_noEvent s
    · exact placesNoCall_taken (by simp)

theorem placesNoCall_evaluation (hclosed : s.controllerOpen = false) : PlacesNoCall s (execEvaluation s) :=
  placesNoCall_test ((callsOut_evaluate (s := { s with evalDue := false }) hclosed).trans rfl)

theorem placesNoCall_lockoutExpiry (ap : Fin 8) : PlacesNoCall s (execLockoutExpiry ap s) := by
  unfold execLockoutExpiry
  split
  · exact placesNoCall_noEvent s
  · exact placesNoCall_taken (by simp)

end Records

/-! ### Phase-port rows -/

section Phase

variable (chars : List SerialChar) (k : Fin 4) (s : State)

theorem placesNoCall_messageStart : PlacesNoCall s (execMessageStart chars s) := by
  unfold execMessageStart
  split
  · exact placesNoCall_noEvent s
  · split
    case h_1 => exact placesNoCall_taken rfl
    all_goals exact placesNoCall_noEvent s

theorem placesNoCall_phases : PlacesNoCall s (execPhases chars s) := by
  unfold execPhases
  split
  · exact placesNoCall_taken (by simp)
  · exact placesNoCall_noEvent s

/-- A message that acts on the slot of its call places no CALL when the act places none (R144, R145). -/
theorem placesNoCall_forCall (n : Nat) (act : Fin 4 → State → State) (hact : ∀ k t, callsOut (act k t) = callsOut t) :
    PlacesNoCall s (taken (s.validMessage.forCall n act)) :=
  placesNoCall_taken ((callsOut_forCall _ n act hact).trans (callsOut_validMessage s))

theorem placesNoCall_accept : PlacesNoCall s (execAccept chars s) := by
  unfold execAccept
  split
  · exact placesNoCall_forCall s _ _ fun k t => callsOut_acceptFor t k
  · exact placesNoCall_noEvent s

theorem placesNoCall_start : PlacesNoCall s (execStart chars s) := by
  unfold execStart
  split
  · exact placesNoCall_forCall s _ _ fun k t => callsOut_startFor t k
  · exact placesNoCall_noEvent s

theorem placesNoCall_deny : PlacesNoCall s (execDeny chars s) := by
  unfold execDeny
  split
  · exact placesNoCall_forCall s _ _ fun k t => callsOut_denyFor t k _
  · exact placesNoCall_noEvent s

theorem placesNoCall_end : PlacesNoCall s (execEnd chars s) := by
  unfold execEnd
  split
  · exact placesNoCall_forCall s _ _ fun k t => callsOut_endFor t k _
  · exact placesNoCall_noEvent s

theorem placesNoCall_invalidMessage : PlacesNoCall s (execInvalidMessage chars s) := by
  unfold execInvalidMessage
  split
  · exact placesNoCall_taken (by simp)
  · exact placesNoCall_noEvent s

theorem placesNoCall_messageCutOff : PlacesNoCall s (execMessageCutOff s) := by
  unfold execMessageCutOff
  split
  · exact placesNoCall_noEvent s
  · exact placesNoCall_taken (by simp)

/-- A message that leaves the output leaves the CALLs behind it. -/
theorem placesNoCall_messageTxEnd : PlacesNoCall s (execMessageTxEnd s) := by
  unfold execMessageTxEnd
  split
  · exact placesNoCall_noEvent s
  case h_2 m rest houtput =>
    rintro t ⟨⟩
    rw [callsOut_endEvent, callsOut, callsOut, houtput]
    exact ((List.sublist_cons_self m rest).filter _).length_le

theorem placesNoCall_readyLineChange (level : ReadyLevel) : PlacesNoCall s (execReadyLineChange level s) :=
  placesNoCall_ite (placesNoCall_noEvent s) (placesNoCall_taken (by simp))

theorem placesNoCall_phaseAgeExpiry : PlacesNoCall s (execPhaseAgeExpiry s) := placesNoCall_test (by simp)

theorem placesNoCall_responseTimeout : PlacesNoCall s (execResponseTimeout k s) := by
  refine placesNoCall_ite ?_ (placesNoCall_noEvent s)
  split
  case h_1 | h_2 => exact placesNoCall_taken (by simp)
  all_goals exact placesNoCall_noEvent s

theorem placesNoCall_startLimitExpiry : PlacesNoCall s (execStartLimitExpiry k s) := placesNoCall_test (by simp)

theorem placesNoCall_serviceLimitExpiry : PlacesNoCall s (execServiceLimitExpiry k s) := placesNoCall_test (by simp)

end Phase

/-! ### Handler rows and resets -/

section Handler

variable (s : State)

theorem placesNoCall_time : PlacesNoCall s (execTime s) := by
  unfold execTime
  split
  · exact placesNoCall_noEvent s
  case h_2 x u htake =>
    have hsame := callsOut_takeHead htake
    split
    · exact placesNoCall_taken hsame
    · exact placesNoCall_taken (Eq.trans (b := callsOut u) rfl hsame)

theorem placesNoCall_noticeReceive : PlacesNoCall s (execNoticeReceive s) := by
  unfold execNoticeReceive
  split
  · exact placesNoCall_noEvent s
  case h_2 htake => exact placesNoCall_taken ((callsOut_noticeFrameTaken _ _).trans (callsOut_takeHead htake))

theorem placesNoCall_unknownKind : PlacesNoCall s (execUnknownKind s) := by
  unfold execUnknownKind
  split
  · exact placesNoCall_noEvent s
  case h_2 htake => exact placesNoCall_taken ((callsOut_count _ _).trans (callsOut_takeHead htake))

/-- A reset empties the output (R138). -/
theorem placesNoCall_reset (straps : BitVec 6) (level : ReadyLevel) : PlacesNoCall s (execPowerOn straps level s) := by
  rintro t ⟨⟩
  exact Nat.zero_le _

end Handler

/-- While the controller is closed no command places a CALL. -/
theorem placesNoCall_exec (c : Instr) (s : State) (hclosed : s.controllerOpen = false) : PlacesNoCall s (exec c s) := by
  cases c with
  | powerOn straps level | resetPin straps level => exact placesNoCall_reset s straps level
  | validFrame p chars => exact placesNoCall_validFrame p s chars
  | crcError p chars => exact placesNoCall_crcError p s chars
  | lengthError p chars => exact placesNoCall_lengthError p s chars
  | corridorRxIdle p => exact placesNoCall_corridorRxIdle p s
  | txStart p => exact placesNoCall_txStart p s
  | frameTxEnd p => exact placesNoCall_frameTxEnd p s
  | fillTimerExpiry p => exact placesNoCall_fillTimerExpiry p s
  | holdTimerExpiry p => exact placesNoCall_holdTimerExpiry p s
  | holdRepeatExpiry p => exact placesNoCall_holdRepeatExpiry p s
  | silenceTimerExpiry p => exact placesNoCall_silenceTimerExpiry p s
  | portDisable =>
    exact placesNoCall_request _ _ (callsOut_portControl 0 _ fun p t => callsOut_disablePort t p) s
  | portEnable =>
    exact placesNoCall_request _ _ (callsOut_portControl 1 _ fun p t => callsOut_enablePort t p) s
  | portReset =>
    exact placesNoCall_request _ _ (callsOut_portControl 2 _ fun p t => callsOut_resetPort t p) s
  | drainComplete p => exact placesNoCall_drainComplete p s
  | reportComplete l chars => exact placesNoCall_reportComplete l s chars
  | beaconLineIdle l => exact placesNoCall_beaconLineIdle l s
  | lineDisable =>
    exact placesNoCall_request _ _ (callsOut_lineControl 0 _ fun l t => callsOut_disableLine t l) s
  | lineEnable =>
    exact placesNoCall_request _ _ (callsOut_lineControl 1 _ fun l t => callsOut_enableLine t l) s
  | lineDrainComplete l how => exact placesNoCall_lineDrainComplete l s how
  | reportTake => exact placesNoCall_reportTake s
  | etaExpiry r => exact placesNoCall_etaExpiry r s
  | lifetimeExpiry r => exact placesNoCall_lifetimeExpiry r s
  | holdOffExpiry r => exact placesNoCall_holdOffExpiry r s
  | evaluation => exact placesNoCall_evaluation s hclosed
  | lockoutExpiry ap => exact placesNoCall_lockoutExpiry s ap
  | readyLineChange level => exact placesNoCall_readyLineChange s level
  | phases chars => exact placesNoCall_phases chars s
  | accept chars => exact placesNoCall_accept chars s
  | start chars => exact placesNoCall_start chars s
  | deny chars => exact placesNoCall_deny chars s
  | endService chars => exact placesNoCall_end chars s
  | invalidMessage chars => exact placesNoCall_invalidMessage chars s
  | messageCutOff => exact placesNoCall_messageCutOff s
  | messageTxEnd => exact placesNoCall_messageTxEnd s
  | phaseAgeExpiry => exact placesNoCall_phaseAgeExpiry s
  | responseTimeout k => exact placesNoCall_responseTimeout k s
  | startLimitExpiry k => exact placesNoCall_startLimitExpiry k s
  | serviceLimitExpiry k => exact placesNoCall_serviceLimitExpiry k s
  | time => exact placesNoCall_time s
  | corridorTimeWrap => exact placesNoCall_taken (s := s) rfl
  | noticeReceive => exact placesNoCall_noticeReceive s
  | unknownKind => exact placesNoCall_unknownKind s
  | unknownRequest =>
    exact placesNoCall_read .unknownRequest (fun _ t => (t, .plain .unknownRequest)) (fun _ _ => rfl) s
  | identify => exact placesNoCall_read _ _ (fun b t => identifyRequest_same t b) s
  | readStatus => exact placesNoCall_read .readStatus readStatusRequest (fun _ _ => rfl) s
  | readTable => exact placesNoCall_read _ _ (fun b t => readTableRequest_same t b) s
  | writeEntry => exact placesNoCall_request _ _ callsOut_writeEntryRequest s
  | verifyTable => exact placesNoCall_read _ _ (fun b t => verifyTableRequest_same t b) s
  | readRecords => exact placesNoCall_read _ _ (fun b t => readRecordsRequest_same t b) s
  | readSlots => exact placesNoCall_read .readSlots readSlotsRequest (fun _ _ => rfl) s
  | withdraw => exact placesNoCall_request _ _ callsOut_withdrawRequest s
  | readCounters => exact placesNoCall_request _ _ callsOut_readCountersRequest s
  | readAttention => exact placesNoCall_request .readAttention readAttentionRequest (fun _ _ => rfl) s
  | commission => exact placesNoCall_request _ _ callsOut_commissionRequest s
  | decommission => exact placesNoCall_request _ _ callsOut_decommissionRequest s
  | frameStart p more => exact placesNoCall_frameStart p s more
  | reportStart l parityBit more => exact placesNoCall_reportStart l s parityBit more
  | messageStart more => exact placesNoCall_messageStart more s

theorem controllerOpen_of_closed {s : State}
    (h : s.controller.ready = .busy ∨ s.controller.unresponsive = true ∨ s.controller.phaseKnown = false) :
    s.controllerOpen = false := by
  rcases h with h | h | h <;> simp [State.controllerOpen, h]

/-- Settles O36: a CALL is placed by an opening alone, and an opening needs the controller open. -/
theorem noCallWhileControllerClosed : Obligations.NoCallWhileControllerClosed := fun c s t h hclosed =>
  placesNoCall_exec c s (controllerOpen_of_closed hclosed) t h

end Sys2Proof.CallArbitration
end

section
/-! Events of the phase port and the arbiter that name no slot (R133, R139 to R144). -/

namespace Sys2Proof.CallArbitration

open Sys2Proof.Machine Sys2Proof.Safety Sys2Proof.Laws Sys2Proof.LineFormats

/-! ### The status of the controller (R138, R140 to R142, R144) -/

/-- A mark set before the controller status is replaced is the mark set after. -/
theorem markDue_setController_markDue (s : State) (c : Controller) :
    (s.markDue.setController c).markDue = (s.setController c).markDue := by
  unfold State.markDue State.setController
  by_cases hm : s.mode = .active
  · simp only [hm, if_true]
  · simp only [hm, if_false]

/-- What a valid message writes of the controller status is what PHASES keeps, and its mark is the one PHASES sets. -/
theorem phases_of_validMessage (s : State) (green : Word16) :
    (s.validMessage.setController
        { s.validMessage.controller with phaseKnown := true, greenSet := green, phaseAge := 0 }).markDue =
      (s.messageDone.setController { s.controller with unresponsive := false, timeoutCount := 0, phaseKnown := true
                                                       greenSet := green, phaseAge := 0 }).markDue := by
  have hcontroller : s.validMessage.controller = { s.controller with unresponsive := false, timeoutCount := 0 } := by
    unfold State.validMessage State.heard
    dsimp only
    split
    · exact markDue_controller _
    · rfl
  rw [hcontroller]
  unfold State.validMessage State.heard
  dsimp only
  split
  · exact markDue_setController_markDue _ _
  · rfl

theorem execPhases_of_phases {s : State} {chars : List SerialChar} {green : Word16}
    (h : s.messageFrom chars = some (.phases green)) :
    execPhases chars s = taken (s.messageDone.setController
      { s.controller with unresponsive := false, timeoutCount := 0, phaseKnown := true, greenSet := green
                          phaseAge := 0 }).markDue := by
  simp only [execPhases, h, phases_of_validMessage]

theorem execReadyLineChange_of_change {s : State} {level : ReadyLevel} (h : s.controller.ready ≠ level) :
    execReadyLineChange level s = taken (s.setController { s.controller with ready := level }).markDue := if_neg h

theorem execPhaseAgeExpiry_of_known {s : State} (h : s.controller.phaseKnown = true) :
    execPhaseAgeExpiry s = taken ((s.setController { s.controller with phaseKnown := false, phaseAge := 30 }).raise
      .phaseStatusLost).markDue := if_pos h

theorem execLockoutExpiry_of_running {s : State} {ap : Fin 8} (h : (s.lockout ap).isSome = true) :
    execLockoutExpiry ap s = taken (s.setLockout ap none).markDue := by
  obtain ⟨left, hleft⟩ := Option.isSome_iff_exists.mp h
  simp only [execLockoutExpiry, hleft]

/-! ### The messages on the line (R15, R139, R143) -/

theorem execMessageStart_of_going {s : State} {more : List SerialChar} {r : MsgReceiver} (hhunt : s.msgReceiver = .hunt)
    (hrun : runChars MsgReceiver.char (.collect [0xA5] false) more = .going r) :
    execMessageStart more s = taken { s with msgReceiver := r } := by
  simp only [execMessageStart, hhunt, runChars_syncByte, hrun]

theorem execInvalidMessage_of_invalid {s : State} {chars : List SerialChar} (h : s.messageFrom chars = some .invalid) :
    execInvalidMessage chars s = taken (s.messageDone.count (.controller .badMessages)) := by
  simp only [execInvalidMessage, h]

theorem execMessageCutOff_of_collect {s : State} {got : List Byte} {damaged : Bool}
    (h : s.msgReceiver = .collect got damaged) :
    execMessageCutOff s = taken (s.messageDone.count (.controller .badMessages)) := by
  simp only [execMessageCutOff, h]

theorem execMessageTxEnd_of_output {s : State} {m : CtrlMessage} {rest : List CtrlMessage} (h : s.output = m :: rest) :
    execMessageTxEnd s = taken { s with output := rest } := by
  simp only [execMessageTxEnd, h]

/-- Settles O38: each event in the state that allows it. -/
theorem controllerStatusEvents : Obligations.ControllerStatusEvents := fun _ =>
  ⟨fun _ h => execReadyLineChange_of_change h, fun _ _ h => execPhases_of_phases h, execPhaseAgeExpiry_of_known,
    fun _ h => execLockoutExpiry_of_running h,
    fun hhunt => execMessageStart_of_going (more := []) (r := .collect [0xA5] false) hhunt rfl,
    fun _ _ hhunt hrun => execMessageStart_of_going hhunt hrun, fun _ h => execInvalidMessage_of_invalid h,
    fun _ _ h => execMessageCutOff_of_collect h, fun _ _ h => execMessageTxEnd_of_output h⟩

end Sys2Proof.CallArbitration
end

section
/-! Slot messages that find no part to play, and slot timers that run out (R145, R152, R154 to R158). -/

namespace Sys2Proof.PhasePort

open Sys2Proof.Machine Sys2Proof.Laws Sys2Proof.RequestTable

/-! ### The slot of a call number (R16, R145) -/

/-- No slot holds the number: it is no call number, or each slot in use has another. -/
def Unheld (s : State) (n : Nat) : Prop :=
  n < 1 ∨ 15 < n ∨ ∀ k : Fin 4, (s.slot k).state ≠ .idle → (s.slot k).call ≠ some n

/-- The number is a call number that the slot has, and no other slot in use has it. -/
def HeldOnlyBy (s : State) (n : Nat) (k : Fin 4) : Prop :=
  1 ≤ n ∧ n ≤ 15 ∧ (s.slot k).call = some n ∧
    ∀ j : Fin 4, j ≠ k → (s.slot j).state ≠ .idle → (s.slot j).call ≠ some n

theorem slotOfCall_eq_none_iff {s : State} {n : Nat} : s.slotOfCall n = none ↔ Unheld s n := by
  unfold State.slotOfCall Unheld
  split
  next hrange =>
    obtain ⟨hlow, hhigh⟩ := hrange
    simp [callSlots, Nat.not_lt.mpr hhigh, Nat.pos_iff_ne_zero.mp hlow]
  next hrange => exact iff_of_true rfl (by omega)

theorem slotOfCall_of_heldOnlyBy {s : State} {n : Nat} {k : Fin 4} (h : HeldOnlyBy s n k)
    (hst : (s.slot k).state ≠ .idle) : s.slotOfCall n = some k := by
  obtain ⟨hlow, hhigh, hcall, hothers⟩ := h
  rw [State.slotOfCall, if_pos ⟨hlow, hhigh⟩, callSlots, ← Fin.find?_eq_find?_finRange, Fin.find?_eq_some_iff]
  refine ⟨by simp [hst, hcall], fun j hj => ?_⟩
  simpa using hothers j hj.ne

@[simp] theorem slotOfCall_validMessage (s : State) (n : Nat) : s.validMessage.slotOfCall n = s.slotOfCall n := by
  simp only [State.slotOfCall, slot_validMessage]

/-! ### Stray messages (R145, R152) -/

/-- The states of an accepted or closing slot, in which an ACCEPT has no part (R152). -/
def PastAccept (st : SlotState) : Prop := st = .granted ∨ st = .serving ∨ st = .closing

/-- The states of a started or closing slot, in which a START or a DENY has no part (R152). -/
def PastStart (st : SlotState) : Prop := st = .serving ∨ st = .closing

theorem acceptFor_of_pastAccept {s : State} {k : Fin 4} (h : PastAccept (s.slot k).state) : s.acceptFor k = s.stray := by
  rcases h with h | h | h <;> simp only [State.acceptFor, h]

theorem startFor_of_pastStart {s : State} {k : Fin 4} (h : PastStart (s.slot k).state) : s.startFor k = s.stray := by
  rcases h with h | h <;> simp only [State.startFor, h]

theorem denyFor_of_pastStart {s : State} {k : Fin 4} (h : PastStart (s.slot k).state) (reason : DenyReason) :
    s.denyFor k reason = s.stray := by
  rcases h with h | h <;> simp only [State.denyFor, h]

theorem forCall_of_unheld {s : State} {n : Nat} (h : Unheld s n) (act : Fin 4 → State → State) :
    s.validMessage.forCall n act = s.validMessage.stray := by
  simp only [State.forCall, slotOfCall_validMessage, slotOfCall_eq_none_iff.mpr h]

/-- A message is stray when no slot holds its number, and when the slot's state is past the message's part. -/
theorem forCall_of_past {s : State} {n : Nat} {past : SlotState → Prop} {act : Fin 4 → State → State}
    (hidle : ¬ past .idle) (hact : ∀ k (t : State), past (t.slot k).state → act k t = t.stray)
    (h : Unheld s n ∨ ∃ k, HeldOnlyBy s n k ∧ past (s.slot k).state) :
    s.validMessage.forCall n act = s.validMessage.stray := by
  rcases h with hunheld | ⟨k, hheld, hpast⟩
  · exact forCall_of_unheld hunheld act
  · have hst : (s.slot k).state ≠ .idle := fun hst => hidle (hst ▸ hpast)
    rw [forCall_of_held (slotOfCall_of_heldOnlyBy hheld hst)]
    exact hact k _ (by rwa [slot_validMessage])

theorem execAccept_of_accept {s : State} {chars : List SerialChar} {n : Nat}
    (h : s.messageFrom chars = some (.accept n)) :
    execAccept chars s = taken (s.validMessage.forCall n fun k t => t.acceptFor k) := by
  simp only [execAccept, h]

theorem execStart_of_start {s : State} {chars : List SerialChar} {n : Nat} (h : s.messageFrom chars = some (.start n)) :
    execStart chars s = taken (s.validMessage.forCall n fun k t => t.startFor k) := by
  simp only [execStart, h]

theorem execDeny_of_deny {s : State} {chars : List SerialChar} {n : Nat} {reason : DenyReason}
    (h : s.messageFrom chars = some (.deny n reason)) :
    execDeny chars s = taken (s.validMessage.forCall n fun k t => t.denyFor k reason) := by
  simp only [execDeny, h]

theorem execEnd_of_end {s : State} {chars : List SerialChar} {n : Nat} {reason : EndReason}
    (h : s.messageFrom chars = some (.endService n reason)) :
    execEnd chars s = taken (s.validMessage.forCall n fun k t => t.endFor k reason) := by
  simp only [execEnd, h]

/-- Settles O39: each message finds no slot, or its slot in a state past its part. -/
theorem strayMessagesAreCounted : Obligations.StrayMessagesAreCounted := by
  intro s chars n v u stray unheld only
  refine ⟨fun h hstray => ?_, fun h hstray => ?_, fun reason h hstray => ?_, fun reason h hunheld => ?_⟩
  · exact (execAccept_of_accept h).trans
      (congrArg taken (forCall_of_past (past := PastAccept) nofun (fun _ _ => acceptFor_of_pastAccept) hstray))
  · exact (execStart_of_start h).trans
      (congrArg taken (forCall_of_past (past := PastStart) nofun (fun _ _ => startFor_of_pastStart) hstray))
  · exact (execDeny_of_deny h).trans (congrArg taken
      (forCall_of_past (past := PastStart) nofun (fun _ _ hpast => denyFor_of_pastStart hpast reason) hstray))
  · exact (execEnd_of_end h).trans (congrArg taken (forCall_of_unheld hunheld _))

/-! ### The slot timers (R154, R155, R157, R158) -/

section Timers

variable {s : State} {k : Fin 4} {left : Nat}

theorem timerKind_of_running {kind : SlotTimerKind} (h : s.slotTimer k = some { kind := kind, left := left }) :
    s.timerKind k = some kind := by
  rw [State.timerKind, h]
  rfl

theorem execResponseTimeout_of_called (h : s.slotTimer k = some { kind := .response, left := left })
    (hst : (s.slot k).state = .called) :
    execResponseTimeout k s = taken (s.closeReturning k .timeout).responseMissed := by
  rw [execResponseTimeout, if_pos (timerKind_of_running h)]
  simp only [hst]

theorem execResponseTimeout_of_closing (h : s.slotTimer k = some { kind := .response, left := left })
    (hst : (s.slot k).state = .closing) : execResponseTimeout k s = taken (s.idleSlot k).responseMissed := by
  rw [execResponseTimeout, if_pos (timerKind_of_running h)]
  simp only [hst]

theorem execStartLimitExpiry_of_granted (h : s.slotTimer k = some { kind := .startLimit, left := left })
    (hst : (s.slot k).state = .granted) : execStartLimitExpiry k s = taken (s.closeReturning k .startLimit) :=
  if_pos ⟨timerKind_of_running h, hst⟩

theorem execServiceLimitExpiry_of_serving (h : s.slotTimer k = some { kind := .serviceLimit, left := left })
    (hst : (s.slot k).state = .serving) : execServiceLimitExpiry k s = taken (s.closeReturning k .serviceLimit) :=
  if_pos ⟨timerKind_of_running h, hst⟩

end Timers

/-! ### The consecutive-timeout count (R156) -/

section Missed

variable {s : State}

theorem timeoutRise_of_below (h : s.controller.timeoutCount < 2) :
    s.timeoutRise = s.setController { s.controller with timeoutCount := s.controller.timeoutCount + 1 } := by
  have hcount : min Config.timeoutLimit (s.controller.timeoutCount + 1) = s.controller.timeoutCount + 1 :=
    Nat.min_eq_right (by unfold Config.timeoutLimit; omega)
  have hbelow : s.controller.timeoutCount + 1 ≠ Config.timeoutLimit := by unfold Config.timeoutLimit; omega
  rw [State.timeoutRise, hcount, if_neg fun hrise => hbelow hrise.1]

theorem timeoutLimit_of_atLimit (h : 2 ≤ s.controller.timeoutCount) :
    min Config.timeoutLimit (s.controller.timeoutCount + 1) = Config.timeoutLimit :=
  Nat.min_eq_left (Nat.succ_le_succ h)

theorem timeoutRise_of_unresponsive (h : 2 ≤ s.controller.timeoutCount) (hset : s.controller.unresponsive = true) :
    s.timeoutRise = s.setController { s.controller with timeoutCount := 3 } := by
  rw [State.timeoutRise, timeoutLimit_of_atLimit h, if_neg (by simp [hset])]
  rfl

theorem timeoutRise_of_responsive (h : 2 ≤ s.controller.timeoutCount) (hclear : s.controller.unresponsive = false) :
    s.timeoutRise = (((s.setController { s.controller with timeoutCount := 3, unresponsive := true }).count
      (.controller .unresponsiveEntries)).raise .controllerUnresponsive).markDue := by
  rw [State.timeoutRise, timeoutLimit_of_atLimit h, if_pos ⟨rfl, hclear⟩]
  rfl

end Missed

/-- Settles O42: each expiry in the state its timer belongs to, and the rise of the count below and at its limit. -/
theorem slotTimersRunOut : Obligations.SlotTimersRunOut := by
  refine ⟨fun s k left => ?_, fun s => ?_⟩
  · exact ⟨execResponseTimeout_of_called, execResponseTimeout_of_closing, execStartLimitExpiry_of_granted,
      execServiceLimitExpiry_of_serving⟩
  · intro v rise
    have hsame : v.controller = s.controller := count_controller s _
    refine ⟨fun hfew => ?_, fun hlimit hset => ?_, fun hlimit hclear => ?_⟩
    · exact (timeoutRise_of_below (hsame ▸ hfew)).trans (by rw [hsame]; rfl)
    · exact (timeoutRise_of_unresponsive (hsame ▸ hlimit) (hsame ▸ hset)).trans (by rw [hsame, ← hset]; rfl)
    · exact (timeoutRise_of_responsive (hsame ▸ hlimit) (hsame ▸ hclear)).trans (by rw [hsame]; rfl)

end Sys2Proof.PhasePort
end

section
/-! A NOTICE composed at a clean CHECK-OUT, and the port it is offered to (R163 to R165). -/

namespace Sys2Proof.AdvanceNotices

open Sys2Proof.Machine Sys2Proof.CorridorPorts

/-! ### The composed frame (R164) -/

section Frame

variable (s : State) (e : ApproachEntry) (vehicle route : Nat) (direction : Bool) (lateness : Option Int)

/-- The source, route word and lateness as R6, R10 and R164 write them, in place of the model's own names for them. -/
theorem noticeFrame_eq :
    s.noticeFrame e vehicle route direction lateness =
      { dest := byteOf (e.downAddress.getD 0), source := s.address.setWidth 8, kind := 0x04, hop := 63, tag := 0
        body := bytes16 vehicle ++ bytes16 (route * 4 + (if direction then 2 else 0))
          ++ [match lateness with | none => 0x80 | some x => BitVec.ofInt 8 x] ++ bytes16 e.downTravel } := by
  have hword : routeWord route direction = route * 4 + (if direction then 2 else 0) := by cases direction <;> rfl
  have hlate : writeLateness lateness = match lateness with | none => 0x80 | some x => BitVec.ofInt 8 x := by
    cases lateness <;> rfl
  rw [State.noticeFrame, hword, hlate]
  rfl

theorem noticeFrame_length : (s.noticeFrame e vehicle route direction lateness).length = 15 := rfl

theorem noticeFrame_units : (s.noticeFrame e vehicle route direction lateness).units = 2 := by
  rw [LinkFrame.units, noticeFrame_length]

end Frame

/-! ### The downstream direction (R163) -/

section Send

variable {s : State} {ap : Fin 8} (vehicle route : Nat) (direction : Bool) (lateness : Option Int)

theorem sendNotice_of_no_direction (h : (s.approach ap).downDirection = none) :
    s.sendNotice ap vehicle route direction lateness = s := by
  simp only [State.sendNotice, h]

theorem sendNotice_of_direction {p : Port} (h : (s.approach ap).downDirection = some p) :
    s.sendNotice ap vehicle route direction lateness =
      s.offerNotice p (s.noticeFrame (s.approach ap) vehicle route direction lateness) := by
  simp only [State.sendNotice, h]

end Send

/-! ### The three tests of the port (R165) -/

section Offer

variable {s : State} {p : Port} {f : LinkFrame}

theorem offerNotice_of_room (hmode : (s.port p).mode = .enabled) (hheard : (s.port p).silent = false)
    (hroom : f.units + usedUnits (s.port p).queue ≤ s.partition p) :
    s.offerNotice p f =
      (s.setQueue p ((s.port p).queue ++ [{ frame := f, ownAlert := false }])).count (.notice .noticesSent) := by
  have hfits : s.fits p f = true := (fits_iff s p f).mpr hroom
  rw [State.offerNotice, if_pos ⟨hmode, hheard, hfits⟩, State.enqueue, if_pos hfits]

theorem offerNotice_of_failed_test (hfail : (s.port p).mode ≠ .enabled ∨ (s.port p).silent = true ∨
      s.partition p < f.units + usedUnits (s.port p).queue) :
    s.offerNotice p f = (s.count (.notice .noticesUnsent)).raise .noticeUnsent := by
  refine if_neg ?_
  rintro ⟨hmode, hheard, hfits⟩
  obtain hnot | hsilent | hfull := hfail
  · exact hnot hmode
  · exact Bool.false_ne_true (hheard.symm.trans hsilent)
  · exact Nat.not_lt.mpr ((fits_iff s p f).mp hfits) hfull

end Offer

/-- Settles O31: the downstream direction chooses the port, and its three tests choose between the queue and the
count of the unsent. -/
theorem noticeQueuedOrUnsent : Obligations.NoticeQueuedOrUnsent := by
  intro s ap vehicle route direction lateness e sent f
  have hframe : s.noticeFrame e vehicle route direction lateness = f :=
    noticeFrame_eq s e vehicle route direction lateness
  have hunits : f.units = 2 := hframe ▸ noticeFrame_units s e vehicle route direction lateness
  have hlength : f.length = 15 := hframe ▸ noticeFrame_length s e vehicle route direction lateness
  refine ⟨sendNotice_of_no_direction vehicle route direction lateness, fun p hdir => ?_⟩
  have hsent : sent = s.offerNotice p f := hframe ▸ sendNotice_of_direction vehicle route direction lateness hdir
  have hneeded : f.units + usedUnits (s.port p).queue = usedUnits (s.port p).queue + 2 := by rw [hunits, Nat.add_comm]
  refine ⟨hunits, hlength, fun hmode hheard hroom => ?_, fun hfail => ?_⟩
  · exact hsent.trans (offerNotice_of_room hmode hheard (hneeded.trans_le hroom))
  · exact hsent.trans (offerNotice_of_failed_test (hneeded ▸ hfail))

end Sys2Proof.AdvanceNotices
end

section
/-! No command ends in a fault or a refusal: each outcome is an event taken or no event (R174, R175, R177). -/

namespace Sys2Proof.Management

open Sys2Proof.Machine

/-- The outcome is a next state. -/
def AnswersNext (o : Host.Outcome State Fault Refusal) : Prop := ∃ t : State, o = .next t

theorem answersNext_taken (s : State) : AnswersNext (taken s) := ⟨s.endEvent, rfl⟩

theorem answersNext_noEvent (s : State) : AnswersNext (noEvent s) := ⟨s, rfl⟩

theorem answersNext_ite {c : Prop} [Decidable c] {o q : Host.Outcome State Fault Refusal} (ho : AnswersNext o)
    (hq : AnswersNext q) : AnswersNext (if c then o else q) := by
  split
  · exact ho
  · exact hq

/-- An event that a test allows. -/
theorem answersNext_test {c : Prop} [Decidable c] (s u : State) : AnswersNext (if c then taken u else noEvent s) :=
  answersNext_ite (answersNext_taken u) (answersNext_noEvent s)

/-- A request is no event, or carried out and answered (R177, R178). -/
theorem answersNext_request (row : HandlerRow) (carryOut : List Byte → State → State × Answer) (s : State) :
    AnswersNext (request row carryOut s) := by
  unfold request
  split
  · exact answersNext_noEvent s
  · exact answersNext_taken _

/-- Each command by the shape of its meaning: a test, a search that finds something or nothing, or a request. -/
theorem answersNext_exec (c : Instr) (s : State) : AnswersNext (exec c s) := by
  cases c with
  | powerOn straps level | resetPin straps level => exact ⟨_, rfl⟩
  | corridorTimeWrap => exact answersNext_taken _
  | silenceTimerExpiry p | drainComplete p | evaluation | phaseAgeExpiry | startLimitExpiry k | serviceLimitExpiry k =>
    exact answersNext_test s _
  | readyLineChange level => exact answersNext_ite (answersNext_noEvent s) (answersNext_taken _)
  | fillTimerExpiry p =>
    exact answersNext_ite (answersNext_ite (answersNext_taken _) (answersNext_taken _)) (answersNext_noEvent s)
  | validFrame p chars | crcError p chars | lengthError p chars | phases chars | accept chars | start chars | deny chars
  | endService chars | invalidMessage chars =>
    simp only [exec, execValidFrame, execCrcError, execLengthError, execPhases, execAccept, execStart, execDeny, execEnd,
      execInvalidMessage]
    split
    · exact answersNext_taken _
    · exact answersNext_noEvent s
  | holdTimerExpiry p | holdRepeatExpiry p | etaExpiry r | lifetimeExpiry r | lockoutExpiry ap | messageCutOff
  | messageTxEnd | noticeReceive | unknownKind =>
    simp only [exec, execHoldTimerExpiry, execHoldRepeatExpiry, execEtaExpiry, execLifetimeExpiry, execLockoutExpiry,
      execMessageCutOff, execMessageTxEnd, execNoticeReceive, execUnknownKind]
    split
    · exact answersNext_noEvent s
    · exact answersNext_taken _
  | frameStart p more | reportStart l parityBit more =>
    refine answersNext_ite ?_ (answersNext_noEvent s)
    split
    case h_1 => exact answersNext_taken _
    case h_2 | h_3 => exact answersNext_noEvent s
  | messageStart more =>
    simp only [exec, execMessageStart]
    split
    · exact answersNext_noEvent s
    · split
      case h_1 => exact answersNext_taken _
      case h_2 | h_3 => exact answersNext_noEvent s
  | txStart p =>
    refine answersNext_ite ?_ (answersNext_noEvent s)
    split
    · exact answersNext_taken _
    · exact answersNext_noEvent s
  | frameTxEnd p =>
    simp only [exec, execFrameTxEnd]
    split
    · exact answersNext_noEvent s
    · split <;> exact answersNext_taken _
  | corridorRxIdle p =>
    simp only [exec, execCorridorRxIdle]
    split <;> exact answersNext_taken _
  | reportComplete l chars =>
    simp only [exec, execReportComplete]
    split
    case h_1 | h_2 => exact answersNext_taken _
    case h_3 | h_4 => exact answersNext_noEvent s
  | beaconLineIdle l =>
    refine answersNext_ite ?_ (answersNext_noEvent s)
    split <;> exact answersNext_taken _
  | lineDrainComplete l how =>
    simp only [exec, execLineDrainComplete]
    split
    · exact answersNext_taken _
    · split
      · exact answersNext_taken _
      · exact answersNext_noEvent s
    · exact answersNext_noEvent s
  | reportTake =>
    simp only [exec, execReportTake]
    split
    · exact answersNext_noEvent s
    · exact answersNext_ite (answersNext_taken _) (answersNext_taken _)
  | holdOffExpiry r =>
    simp only [exec, execHoldOffExpiry]
    split
    · exact answersNext_noEvent s
    · split
      · exact answersNext_noEvent s
      · exact answersNext_taken _
  | responseTimeout k =>
    refine answersNext_ite ?_ (answersNext_noEvent s)
    split
    case h_1 | h_2 => exact answersNext_taken _
    all_goals exact answersNext_noEvent s
  | time =>
    simp only [exec, execTime]
    split
    · exact answersNext_noEvent s
    · split <;> exact answersNext_taken _
  | unknownRequest | identify | readStatus | readTable | writeEntry | verifyTable | readRecords | readSlots | withdraw
  | portDisable | portEnable | portReset | lineDisable | lineEnable | readCounters | readAttention | commission
  | decommission =>
    simp only [exec, execUnknownRequest, execIdentify, execReadStatus, execReadTable, execWriteEntry, execVerifyTable,
      execReadRecords, execReadSlots, execWithdraw, execPortDisable, execPortEnable, execPortReset, execLineDisable,
      execLineEnable, execReadCounters, execReadAttention, execCommission, execDecommission]
    exact answersNext_request _ _ s

/-- Settles O3: every command's outcome is a next state. -/
theorem everyCommandAnswersNext : Obligations.EveryCommandAnswersNext := answersNext_exec

end Sys2Proof.Management
end

section
/-! The frames the local frame handler takes itself, and the REPLY of every request (R175 to R178). -/

namespace Sys2Proof.Management

open Sys2Proof.Machine Sys2Proof.Safety Sys2Proof.Laws Sys2Proof.CorridorPorts Sys2Proof.BeaconLines

/-! ### TIME (R176) -/

section Handler

variable {s : State} {x : InboundFrame} {rest : List InboundFrame} (hhead : s.inbound = x :: rest)
include hhead

theorem takeHead_of_time (hkind : x.frame.kind = 0x03) : s.takeHead .time = some (x, afterTake s rest) :=
  takeHead_of_head s .time x rest hhead (if_pos hkind)

theorem execTime_of_valid (hkind : x.frame.kind = 0x03) (hlen : x.frame.body.length = 3)
    (hday : word24At x.frame.body 0 ≤ 863999) :
    execTime s =
      .next { afterTake s rest with corridorTime := word24At x.frame.body 0, timeSet := true }.endEvent := by
  have hread : readTime x.frame = some (word24At x.frame.body 0) := by
    rw [readTime, Config.lastTenth, if_pos ⟨hlen, hday⟩]
  simp only [execTime, takeHead_of_time hhead hkind, hread]
  rfl

theorem execTime_of_invalid (hkind : x.frame.kind = 0x03)
    (hbad : x.frame.body.length ≠ 3 ∨ 863999 < word24At x.frame.body 0) :
    execTime s = .next (afterTake s rest).endEvent := by
  have hread : readTime x.frame = none := by
    rw [readTime, Config.lastTenth, if_neg fun ⟨hlen, hday⟩ => hbad.elim (· hlen) (Nat.not_lt.mpr hday)]
  simp only [execTime, takeHead_of_time hhead hkind, hread]
  rfl

/-! ### Unknown kinds and unknown requests (R175, R177) -/

theorem execUnknownKind_of_kind (hkind : 6 ≤ x.frame.kind.toNat) :
    execUnknownKind s = .next ((afterTake s rest).count (.loc .unknownKind)).endEvent := by
  have hne {kind : Byte} (hlow : kind.toNat < 6) : x.frame.kind ≠ kind := by
    rintro rfl
    omega
  have hrow : rowOf x.frame = .unknownKind := by
    rw [rowOf, if_neg (hne (by decide)), if_neg (hne (by decide)), if_neg (hne (by decide))]
  rw [execUnknownKind, takeHead_of_head s .unknownKind x rest hhead hrow]
  rfl

end Handler

theorem requestRow_of_unknown {body : List Byte} (h : byteAt body 0 = 0 ∨ 14 < byteAt body 0) :
    requestRow body = .unknownRequest := by
  unfold requestRow
  split
  case h_15 => rfl
  all_goals omega

theorem execUnknownRequest_of_code {s : State} {x : InboundFrame} {rest : List InboundFrame} {code : Nat}
    (h : RequestAtHead s x rest code) (hcode : code = 0 ∨ 14 < code) :
    execUnknownRequest s = .next (answered (afterTake s rest) x (.plain .unknownRequest)) := by
  obtain ⟨hhead, hkind, rfl⟩ := h
  exact request_answered hhead ((rowOf_request x.frame hkind).trans (requestRow_of_unknown hcode)) rfl

/-! ### The REPLY (R6, R178) -/

section Reply

variable {u : State} {x : InboundFrame} {a : Answer}

theorem reply_of_room
    (h : (u.replyFrame x.frame a).units + usedUnits (u.port x.port).queue ≤ u.partition x.port) :
    u.reply x a =
      u.setQueue x.port ((u.port x.port).queue ++ [{ frame := u.replyFrame x.frame a, ownAlert := false }]) := by
  have hfits : u.fits x.port (u.replyFrame x.frame a) = true := (fits_iff ..).mpr h
  rw [State.reply, if_pos hfits, State.enqueue, if_pos hfits]

theorem reply_of_full
    (h : u.partition x.port < (u.replyFrame x.frame a).units + usedUnits (u.port x.port).queue) :
    u.reply x a = u.count (.loc .repliesDropped) :=
  if_neg fun hfits => Nat.not_lt.mpr ((fits_iff ..).mp hfits) h

end Reply

/-- Settles O43: each row by the frame at the head, and the REPLY by the room in its port's queue. -/
theorem handlerTakesFramesAndReplies : Obligations.HandlerTakesFramesAndReplies := by
  refine ⟨⟨fun s x rest hhead => ?_, fun s => rfl⟩, fun u x a => ⟨reply_of_room, reply_of_full⟩,
    fun s x rest code h hcode => execUnknownRequest_of_code h hcode⟩
  exact ⟨execTime_of_valid hhead, execTime_of_invalid hhead, execUnknownKind_of_kind hhead⟩

end Sys2Proof.Management
end

section
/-! The bytes of the tables' entries: what is written reads back, and so does a stored entry from its numbers (R189,
R190). -/

namespace Sys2Proof.Management

open Sys2Proof.Machine Sys2Proof.LoadedTables Sys2Proof.LineFormats Sys2Proof.BeaconLines

/-! ### Numbers at a place among bytes (R189) -/

theorem byteAt_cons_zero (b : Byte) (bytes : List Byte) : byteAt (b :: bytes) 0 = b.toNat := rfl

theorem byteAt_cons_succ (b : Byte) (bytes : List Byte) (i : Nat) : byteAt (b :: bytes) (i + 1) = byteAt bytes i := rfl

section Place

variable {bytes rest : List Byte} {i : Nat}

theorem byteAt_of_drop_eq {tail : List Byte} (h : bytes.drop i = tail) (j : Nat) :
    byteAt bytes (i + j) = byteAt tail j := by
  rw [← h, byteAt, byteAt, List.getD_eq_getElem?_getD, List.getD_eq_getElem?_getD, List.getElem?_drop]

theorem byteAt_of_drop {n : Nat} (hn : n < 256) (h : bytes.drop i = byteOf n :: rest) : byteAt bytes i = n := by
  have h0 : byteAt bytes i = n % 256 := (byteAt_of_drop_eq h 0).trans (byteOf_toNat n)
  omega

theorem word16At_of_drop {n : Nat} (hn : n < 65536) (h : bytes.drop i = bytes16 n ++ rest) : word16At bytes i = n := by
  have h0 : byteAt bytes i = n / 256 % 256 := (byteAt_of_drop_eq h 0).trans (byteOf_toNat _)
  have h1 : byteAt bytes (i + 1) = n % 256 := (byteAt_of_drop_eq h 1).trans (byteOf_toNat n)
  rw [word16At, h0, h1]
  omega

theorem word24At_of_drop {n : Nat} (hn : n < 16777216) (h : bytes.drop i = bytes24 n ++ rest) :
    word24At bytes i = n := by
  have h0 : byteAt bytes i = n / 65536 % 256 := (byteAt_of_drop_eq h 0).trans (byteOf_toNat _)
  have h1 : byteAt bytes (i + 1) = n / 256 % 256 := (byteAt_of_drop_eq h 1).trans (byteOf_toNat _)
  have h2 : byteAt bytes (i + 2) = n % 256 := (byteAt_of_drop_eq h 2).trans (byteOf_toNat n)
  rw [word24At, word16At, h0, h1, h2]
  omega

theorem pair12_of_drop {x y : Nat} (hx : x < 4096) (hy : y < 4096) (h : bytes.drop i = pair12 x y ++ rest) :
    first12At bytes i = x ∧ second12At bytes i = y := by
  have h0 : byteAt bytes i = x / 16 % 256 := (byteAt_of_drop_eq h 0).trans (byteOf_toNat _)
  have h1 : byteAt bytes (i + 1) = (x % 16 * 16 + y / 256) % 256 := (byteAt_of_drop_eq h 1).trans (byteOf_toNat _)
  have h2 : byteAt bytes (i + 2) = y % 256 := (byteAt_of_drop_eq h 2).trans (byteOf_toNat y)
  rw [first12At, second12At, h0, h1, h2]
  omega

end Place

/-! ### Entries written and read back (R190) -/

/-- What the bits of each field of an APPROACH entry can hold (R190). -/
structure ApproachInBits (x : RawApproach) : Prop where
  inUse : x.inUse < 2
  rank : x.rank < 8
  kinds : x.kinds < 8
  checkIn : x.checkIn < 16
  checkOut : x.checkOut < 16
  phaseGroup : x.phaseGroup < 256
  downDirection : x.downDirection < 4
  downAddress : x.downAddress < 64
  jumpDuration : x.jumpDuration < 256
  travel : x.travel < 4096
  dwell : x.dwell < 4096
  extension : x.extension < 4096
  earlyDuration : x.earlyDuration < 4096
  lockout : x.lockout < 4096
  downTravel : x.downTravel < 4096

theorem approach_readBack {x : RawApproach} (h : ApproachInBits x) : RawApproach.ofBytes x.toBytes = x := by
  obtain ⟨hinUse, hrank, hkinds, hcheckIn, hcheckOut, hgroup, hdirection, haddress, hjump, htravel, hdwell, hextension,
    hearly, hlockout, hdownTravel⟩ := h
  have h0 : byteAt x.toBytes 0 = x.inUse * 128 + x.rank * 16 + x.kinds := byteAt_of_drop (by omega) rfl
  have h1 : byteAt x.toBytes 1 = x.checkIn * 16 + x.checkOut := byteAt_of_drop (by omega) rfl
  have h2 : byteAt x.toBytes 2 = x.phaseGroup := byteAt_of_drop hgroup rfl
  have h3 : byteAt x.toBytes 3 = x.downDirection * 64 + x.downAddress := byteAt_of_drop (by omega) rfl
  have h4 : byteAt x.toBytes 4 = x.jumpDuration := byteAt_of_drop hjump rfl
  obtain ⟨h5, h6⟩ : first12At x.toBytes 5 = x.travel ∧ second12At x.toBytes 5 = x.dwell :=
    pair12_of_drop htravel hdwell rfl
  obtain ⟨h8, h9⟩ : first12At x.toBytes 8 = x.extension ∧ second12At x.toBytes 8 = x.earlyDuration :=
    pair12_of_drop hextension hearly rfl
  obtain ⟨h11, h12⟩ : first12At x.toBytes 11 = x.lockout ∧ second12At x.toBytes 11 = x.downTravel :=
    pair12_of_drop hlockout hdownTravel (rest := []) rfl
  rw [RawApproach.ofBytes, h0, h1, h2, h3, h4, h5, h6, h8, h9, h11, h12, rawApproach_eq_iff]
  refine ⟨?_, rfl, ?_, ?_, ?_, rfl, rfl, rfl, rfl, rfl, rfl, ?_, ?_, ?_, rfl⟩
  all_goals dsimp only; omega

/-- What the bits of each field of a ROUTE entry can hold, its late thresholds in three places (R190). -/
structure RouteInBits (x : RawRoute) : Prop where
  inUse : x.inUse < 2
  direction : x.direction < 2
  route : x.route < 16384
  excluded : x.excluded < 2
  cutOff : x.cutOff < 128
  baseLevel : x.baseLevel < 8
  places : x.places.length = 3
  place : ∀ t ∈ x.places, t < 128

theorem route_readBack {x : RawRoute} (h : RouteInBits x) : RawRoute.ofBytes x.toBytes = x := by
  obtain ⟨hinUse, hdirection, hroute, hexcluded, hcutOff, hlevel, hlen, hplaces⟩ := h
  obtain ⟨a, b, c, habc⟩ := List.length_eq_three.mp hlen
  have ha : a < 128 := hplaces a (by simp [habc])
  have hb : b < 128 := hplaces b (by simp [habc])
  have hc : c < 128 := hplaces c (by simp [habc])
  have h0 : word16At x.toBytes 0 = x.inUse * 32768 + x.direction * 16384 + x.route :=
    word16At_of_drop (by omega) (List.append_assoc ..)
  have h2 : byteAt x.toBytes 2 = x.excluded * 128 + x.cutOff := byteAt_of_drop (by omega) rfl
  have h3 : word24At x.toBytes 3 = x.baseLevel * 2097152 + a * 16384 + b * 128 + c :=
    word24At_of_drop (by omega) (rest := []) (by rw [RawRoute.toBytes, habc]; rfl)
  simp only [RawRoute.ofBytes, h0, h2, h3, rawRoute_eq_iff, habc, List.cons.injEq, and_true]
  refine ⟨?_, ?_, ?_, ?_, ⟨?_, ?_, ?_⟩, ?_, ?_⟩
  all_goals omega

theorem rawPairs_conflictBytes (s : State) : rawPairs s.conflictBytes = s.conflicts.map (Prod.map Fin.val Fin.val) := by
  rw [rawPairs, State.conflictBytes, List.drop_one, List.tail_cons, List.map_map]
  refine List.map_congr_left fun q _ => Prod.ext ?_ ?_
  · change (q.1.val * 16 + q.2.val) % 256 / 16 = q.1.val
    omega
  · change (q.1.val * 16 + q.2.val) % 256 % 16 = q.2.val
    omega

theorem mem_rawPairs_conflictBytes (s : State) (a b : Fin 8) :
    (a.val, b.val) ∈ rawPairs s.conflictBytes ↔ (a, b) ∈ s.conflicts := by
  rw [rawPairs_conflictBytes]
  exact List.mem_map_of_injective (a := (a, b)) (Fin.val_injective.prodMap Fin.val_injective)

/-- The set that the stored pairs' bytes name is the stored set, whose pairs all have the lower approach first (R75). -/
theorem conflicts_readBack (s : State) (inSet : Fin 8 × Fin 8 → Bool) (h : s.conflicts = allPairs.filter inSet) :
    conflictSet (rawPairs s.conflictBytes) = s.conflicts := by
  have hstored (q : Fin 8 × Fin 8) : q ∈ s.conflicts ↔ q ∈ allPairs ∧ inSet q = true := by rw [h, List.mem_filter]
  have hlower (a b : Fin 8) (hq : (a, b) ∈ s.conflicts) : a < b := (mem_allPairs a b).mp ((hstored _).mp hq).1
  have hread (q : Fin 8 × Fin 8) : q ∈ conflictSet (rawPairs s.conflictBytes) ↔ q ∈ s.conflicts := by
    rw [mem_conflictSet, mem_rawPairs_conflictBytes, mem_rawPairs_conflictBytes]
    constructor
    · rintro ⟨hlt, hq | hswapped⟩
      · exact hq
      · exact absurd (hlower _ _ hswapped) (lt_asymm hlt)
    · exact fun hq => ⟨hlower _ _ hq, .inl hq⟩
  conv_rhs => rw [h]
  refine List.filter_congr fun q hq => Bool.eq_iff_iff.mpr ?_
  have hq' := hread q
  rw [conflictSet, List.mem_filter, hstored] at hq'
  simpa only [hq, true_and] using hq'

/-- The bytes of PARAMS, those after the notice map's count as given. -/
def paramsBytes (x : RawParams) (rest : List Byte) : List Byte :=
  byteOf x.window :: byteOf x.responseTimeout :: (bytes16 x.startLimit ++ byteOf x.margin ::
    (bytes16 x.denyHoldOff ++ (bytes16 x.checkInGrace ++ (bytes16 x.noticeGrace ++
      byteOf x.unlisted :: byteOf x.floor :: byteOf x.split ::
      byteOf x.onA :: byteOf x.onThresholdA :: byteOf x.offThresholdA ::
      byteOf x.onB :: byteOf x.onThresholdB :: byteOf x.offThresholdB ::
      byteOf x.holdLimit :: byteOf x.silenceLimit ::
      (bytes16 x.alertMask ++ byteOf x.alertPort :: byteOf x.mapCount :: rest)))))

/-- The bytes of the four places of the notice map and of the eight line settings. -/
def mapAndLineBytes (x : RawParams) : List Byte :=
  (List.range 4).flatMap (fun i => [byteOf (x.noticeMap.getD i (0, 0)).1, byteOf (x.noticeMap.getD i (0, 0)).2])
    ++ (List.range 8).map (fun i => byteOf ((x.lines.getD i (0, 0)).2 * 4 + (x.lines.getD i (0, 0)).1))

theorem toBytes_eq_paramsBytes (x : RawParams) : x.toBytes = paramsBytes x (mapAndLineBytes x) := by
  simp only [RawParams.toBytes, paramsBytes, mapAndLineBytes, List.append_assoc, List.cons_append, List.nil_append]

theorem byteAt_mapCount (x : RawParams) : byteAt x.toBytes 25 = x.mapCount % 256 := by
  simp only [toBytes_eq_paramsBytes, paramsBytes, bytes16, List.cons_append, List.nil_append, byteAt_cons_succ,
    byteAt_cons_zero, byteOf_toNat]

theorem byteAt_mapAndLines (x : RawParams) (i : Nat) : byteAt x.toBytes (26 + i) = byteAt (mapAndLineBytes x) i := by
  refine byteAt_of_drop_eq ?_ i
  simp only [toBytes_eq_paramsBytes, paramsBytes, bytes16, List.cons_append, List.nil_append, List.drop_succ_cons,
    List.drop_zero]

theorem byteAt_noticeMap (x : RawParams) {i : Nat} (hi : i < 4) :
    byteAt x.toBytes (26 + 2 * i) = (x.noticeMap.getD i (0, 0)).1 % 256 ∧
      byteAt x.toBytes (27 + 2 * i) = (x.noticeMap.getD i (0, 0)).2 % 256 := by
  rw [show 27 + 2 * i = 26 + (1 + 2 * i) by omega, byteAt_mapAndLines, byteAt_mapAndLines]
  interval_cases i <;> exact ⟨byteOf_toNat _, byteOf_toNat _⟩

theorem byteAt_lines (x : RawParams) {i : Nat} (hi : i < 8) : byteAt x.toBytes (34 + i) =
    ((x.lines.getD i (0, 0)).2 * 4 + (x.lines.getD i (0, 0)).1) % 256 := by
  rw [show 34 + i = 26 + (8 + i) by omega, byteAt_mapAndLines]
  interval_cases i <;> exact byteOf_toNat _

/-- What the bits of each field of PARAMS can hold (R190). -/
structure ParamsInBits (x : RawParams) : Prop where
  byte : ∀ n ∈ [x.window, x.responseTimeout, x.margin, x.unlisted, x.floor, x.split, x.onA, x.onThresholdA,
    x.offThresholdA, x.onB, x.onThresholdB, x.offThresholdB, x.holdLimit, x.silenceLimit, x.alertPort], n < 256
  word : ∀ n ∈ [x.startLimit, x.denyHoldOff, x.checkInGrace, x.noticeGrace], n < 65536
  mask : x.alertMask < 8192
  mapLength : x.noticeMap.length = x.mapCount
  mapCount : x.mapCount ≤ 4
  map : ∀ q ∈ x.noticeMap, q.1 < 256 ∧ q.2 < 256
  lineCount : x.lines.length = 8
  line : ∀ q ∈ x.lines, q.1 < 4 ∧ q.2 < 2

section Params

variable {x : RawParams} (h : ParamsInBits x)
include h

theorem noticeMap_readBack : (RawParams.ofBytes x.toBytes).noticeMap = x.noticeMap := by
  have hlen := h.mapLength
  have hfew := h.mapCount
  have hcount : byteAt x.toBytes 25 = x.mapCount := by
    rw [byteAt_mapCount, Nat.mod_eq_of_lt (by omega)]
  rw [RawParams.ofBytes, hcount, Nat.min_eq_left hfew]
  refine List.ext_getElem (by simp [hlen]) fun i _ hi => ?_
  obtain ⟨hfirst, hsecond⟩ := byteAt_noticeMap x (i := i) (by omega)
  obtain ⟨hlow, hhigh⟩ := h.map _ (List.getElem_mem hi)
  rw [List.getElem_map, List.getElem_range, hfirst, hsecond, List.getD_eq_getElem _ _ hi, Nat.mod_eq_of_lt hlow,
    Nat.mod_eq_of_lt hhigh]

theorem lines_readBack : (RawParams.ofBytes x.toBytes).lines = x.lines := by
  rw [RawParams.ofBytes]
  refine List.ext_getElem (by simp [h.lineCount]) fun i _ hi => ?_
  obtain ⟨hparity, haccept⟩ := h.line _ (List.getElem_mem hi)
  rw [List.getElem_map, List.getElem_range, byteAt_lines x (h.lineCount ▸ hi), List.getD_eq_getElem _ _ hi]
  refine Prod.ext ?_ ?_
  all_goals dsimp only; omega

theorem params_readBack : RawParams.ofBytes x.toBytes = x := by
  have hbyte := h.byte
  have hword := h.word
  simp only [List.forall_mem_cons] at hbyte hword
  obtain ⟨hwindow, hresponse, hmargin, hunlisted, hfloor, hsplit, honA, hupA, hdownA, honB, hupB, hdownB, hhold, hsilence,
    hport, -⟩ := hbyte
  obtain ⟨hstart, hdeny, hcheckIn, hnotice, -⟩ := hword
  have hmask := h.mask
  have hcount := h.mapCount
  rw [rawParams_eq_iff]
  refine ⟨?_, ?_, ?_, ?_, ?_, ?_, ?_, ?_, ?_, ?_, ⟨?_, ?_, ?_⟩, ⟨?_, ?_, ?_⟩, ?_, ?_, ?_, ?_, ?_, noticeMap_readBack h,
    lines_readBack h⟩
  all_goals
    simp only [RawParams.ofBytes, toBytes_eq_paramsBytes, paramsBytes, bytes16, List.cons_append, List.nil_append,
      word16At, byteAt_cons_zero, byteAt_cons_succ, byteOf_toNat]
    omega

end Params

/-! ### Stored entries as numbers and back -/

theorem decide_bit_eq_one (b : Bool) : decide (bit b = 1) = b := by
  cases b <;> rfl

theorem lineOfCode_lineCode (l : Option (Fin 8)) : lineOfCode (lineCode l) = l := by
  cases l with
  | none => rfl
  | some l => exact lineOfCode_of_val rfl

theorem directionOfCode_directionCode (d : Option Port) : directionOfCode (directionCode d) = d := by
  rcases d with _ | _ | _ <;> rfl

theorem ofBits_bits (k : KindSet) : KindSet.ofBits k.bits = k := by
  obtain ⟨_ | _, _ | _, _ | _⟩ := k <;> rfl

/-- A number that may be absent, written as 0 when it is. -/
theorem absent_getD {o : Option Nat} (h : o ≠ some 0) : (if o.getD 0 = 0 then none else some (o.getD 0)) = o := by
  cases o with
  | none => rfl
  | some n => exact if_neg fun hn => h (congrArg some hn)

theorem approach_raw_entry (e : ApproachEntry) (h : e.downAddress ≠ some 0) : e.raw.entry = e := by
  calc e.raw.entry
    _ = { e with
          inUse := decide (bit e.inUse = 1), checkIn := lineOfCode (lineCode e.checkIn)
          checkOut := lineOfCode (lineCode e.checkOut), kinds := .ofBits e.kinds.bits
          downDirection := directionOfCode (directionCode e.downDirection)
          downAddress := if e.downAddress.getD 0 = 0 then none else some (e.downAddress.getD 0) } := rfl
    _ = e := by
      rw [decide_bit_eq_one, lineOfCode_lineCode, lineOfCode_lineCode, ofBits_bits, directionOfCode_directionCode,
        absent_getD h]

/-- Three places hold up to three thresholds, none of them 0, and 0 past the last (R190). -/
theorem places_filter {late : List Nat} (hlen : late.length ≤ 3) (h : ∀ t ∈ late, t ≠ 0) :
    [late.getD 0 0, late.getD 1 0, late.getD 2 0].filter (fun t => decide (t ≠ 0)) = late := by
  have hpadded : [late.getD 0 0, late.getD 1 0, late.getD 2 0] = late ++ List.replicate (3 - late.length) 0 :=
    match late, hlen with
    | [], _ | [_], _ | [_, _], _ | [_, _, _], _ => rfl
  have hkept : late.filter (fun t => decide (t ≠ 0)) = late :=
    List.filter_eq_self.mpr fun t ht => decide_eq_true (h t ht)
  rw [hpadded, List.filter_append, hkept, List.filter_replicate_of_neg (by decide), List.append_nil]

theorem route_raw_entry (e : RouteEntry) (hlen : e.late.length ≤ 3) (hlate : ∀ t ∈ e.late, t ≠ 0)
    (hcutOff : e.cutOff ≠ some 0) : e.raw.entry = e := by
  calc e.raw.entry
    _ = { e with
          inUse := decide (bit e.inUse = 1), direction := decide (bit e.direction = 1)
          late := [e.late.getD 0 0, e.late.getD 1 0, e.late.getD 2 0].filter (fun t => decide (t ≠ 0))
          cutOff := if e.cutOff.getD 0 = 0 then none else some (e.cutOff.getD 0)
          excluded := decide (bit e.excluded = 1) } := rfl
    _ = e := by
      rw [decide_bit_eq_one, decide_bit_eq_one, decide_bit_eq_one, places_filter hlen hlate, absent_getD hcutOff]

theorem parityOfCode_code (p : Parity) : parityOfCode p.code = p := by
  cases p <;> rfl

theorem alertPortOfCode_code (p : AlertPort) : alertPortOfCode p.code = p := by
  cases p <;> rfl

/-- REFUSE is written FFh, and a level its number (R190). -/
theorem unlisted_getD {o : Option Nat} (h : ∀ v ∈ o, v < 8) :
    (if o.getD 255 < 8 then some (o.getD 255) else none) = o := by
  cases o with
  | none => rfl
  | some v => exact if_pos (h v rfl)

/-- The setting of a line is that of the numbers at its place. -/
theorem entry_line (x : RawParams) (l : Fin 8) : x.entry.lines[l] = lineSettingOf (x.lines.getD l.val (0, 0)) := by
  fin_cases l <;> rfl

theorem params_raw_entry_lines (e : Params) : e.raw.entry.lines = e.lines := by
  refine Vector.ext fun i hi => ?_
  have hnumbers : e.raw.lines.getD i (0, 0) = (e.lines[i].parity.code, bit e.lines[i].suspectAccept) := by
    rw [Params.raw, List.getD_eq_getElem _ _ (by simpa using hi), List.getElem_map, Vector.getElem_toList]
  calc e.raw.entry.lines[i]
    _ = lineSettingOf (e.raw.lines.getD i (0, 0)) := entry_line e.raw ⟨i, hi⟩
    _ = { parity := parityOfCode e.lines[i].parity.code
          suspectAccept := decide (bit e.lines[i].suspectAccept = 1) } := by rw [hnumbers, lineSettingOf]
    _ = e.lines[i] := by rw [parityOfCode_code, decide_bit_eq_one]

theorem params_raw_entry (e : Params) (h : ∀ v ∈ e.unlisted, v < 8) : e.raw.entry = e := by
  have hmap : (e.noticeMap.map (fun q => (q.1, q.2.val))).map (fun q => (q.1, Fin.ofNat 8 q.2)) = e.noticeMap := by
    have hpair (q : Nat × Fin 8) : (q.1, Fin.ofNat 8 q.2.val) = q := Prod.ext rfl (Fin.ofNat_val_eq_self q.2)
    rw [List.map_map]
    exact (List.map_congr_left fun q _ => hpair q).trans (List.map_id _)
  calc e.raw.entry
    _ = { e with
          unlisted := if e.unlisted.getD 255 < 8 then some (e.unlisted.getD 255) else none
          flowA := { e.flowA with on := decide (bit e.flowA.on = 1) }
          flowB := { e.flowB with on := decide (bit e.flowB.on = 1) }
          alertMask := BitVec.ofNat 13 e.alertMask.toNat, alertPort := alertPortOfCode e.alertPort.code
          noticeMap := (e.noticeMap.map (fun q => (q.1, q.2.val))).map (fun q => (q.1, Fin.ofNat 8 q.2))
          lines := e.raw.entry.lines } := rfl
    _ = e := by
      rw [unlisted_getD h, decide_bit_eq_one, decide_bit_eq_one, BitVec.ofNat_toNat, BitVec.setWidth_eq,
        alertPortOfCode_code, hmap, params_raw_entry_lines]

/-- Settles O9: the bytes field by field, and the numbers of a stored entry field by field. -/
theorem tableBytesReadBack : Obligations.TableBytesReadBack := by
  refine ⟨fun x h1 h2 h3 h4 h5 h6 h7 h8 h9 h10 h11 h12 h13 h14 h15 =>
      ⟨rfl, approach_readBack ⟨h1, h2, h3, h4, h5, h6, h7, h8, h9, h10, h11, h12, h13, h14, h15⟩⟩,
    fun x h1 h2 h3 h4 h5 h6 h7 h8 => ⟨rfl, route_readBack ⟨h1, h2, h3, h4, h5, h6, h7, h8⟩⟩,
    fun x h1 h2 h3 h4 h5 h6 h7 h8 => ⟨rfl, params_readBack ⟨h1, h2, h3, h4, h5, h6, h7, h8⟩⟩,
    fun s inSet h => ⟨?_, conflicts_readBack s inSet h⟩, approach_raw_entry, route_raw_entry, params_raw_entry⟩
  rw [State.conflictBytes, List.length_cons, List.length_map, Nat.add_comm]

end Sys2Proof.Management
end

section
/-! Where each field stands in an entry's bytes, and what its number names (R190). -/

namespace Sys2Proof.Management

open Sys2Proof.Machine Sys2Proof.LoadedTables Sys2Proof.BeaconLines

/-! ### Bits as numbers -/

theorem toNat_append_bits {m n : Nat} (x : BitVec m) (y : BitVec n) : (x ++ y).toNat = x.toNat * 2 ^ n + y.toNat := by
  rw [BitVec.toNat_append, ← Nat.shiftLeft_add_eq_or_of_lt y.isLt, Nat.shiftLeft_eq]

theorem toNat_extractLsb' (b : Byte) (start len : Nat) :
    (b.extractLsb' start len).toNat = b.toNat / 2 ^ start % 2 ^ len := by
  rw [BitVec.extractLsb'_toNat, Nat.shiftRight_eq_div_pow]

/-! ### The bytes of APPROACH and ROUTE -/

theorem approach_ofBytes_bits (b0 b1 b2 b3 b4 b5 b6 b7 b8 b9 b10 b11 b12 b13 : Byte) :
    RawApproach.ofBytes [b0, b1, b2, b3, b4, b5, b6, b7, b8, b9, b10, b11, b12, b13] =
      { inUse := (b0.extractLsb' 7 1).toNat, rank := (b0.extractLsb' 4 3).toNat, kinds := (b0.extractLsb' 0 3).toNat
        checkIn := (b1.extractLsb' 4 4).toNat, checkOut := (b1.extractLsb' 0 4).toNat, phaseGroup := b2.toNat
        downDirection := (b3.extractLsb' 6 2).toNat, downAddress := (b3.extractLsb' 0 6).toNat
        jumpDuration := b4.toNat
        travel := (b5 ++ b6.extractLsb' 4 4).toNat, dwell := (b6.extractLsb' 0 4 ++ b7).toNat
        extension := (b8 ++ b9.extractLsb' 4 4).toNat, earlyDuration := (b9.extractLsb' 0 4 ++ b10).toNat
        lockout := (b11 ++ b12.extractLsb' 4 4).toNat, downTravel := (b12.extractLsb' 0 4 ++ b13).toNat } := by
  have hfirst (hi lo : Byte) : (hi ++ lo.extractLsb' 4 4).toNat = hi.toNat * 16 + lo.toNat / 16 := by
    rw [toNat_append_bits, toNat_extractLsb']
    omega
  have hsecond (hi lo : Byte) : (hi.extractLsb' 0 4 ++ lo).toNat = hi.toNat % 16 * 256 + lo.toNat := by
    rw [toNat_append_bits, toNat_extractLsb']
    omega
  simp only [hfirst, hsecond, toNat_extractLsb', rawApproach_eq_iff]
  refine ⟨?_, rfl, ?_, ?_, ?_, rfl, rfl, rfl, rfl, rfl, rfl, ?_, ?_, ?_, rfl⟩
  all_goals
    simp only [RawApproach.ofBytes, byteAt_cons_zero, byteAt_cons_succ]
    omega

theorem route_ofBytes_bits (b0 b1 b2 b3 b4 b5 : Byte) :
    RawRoute.ofBytes [b0, b1, b2, b3, b4, b5] =
      { inUse := (b0.extractLsb' 7 1).toNat, direction := (b0.extractLsb' 6 1).toNat
        route := (b0.extractLsb' 0 6 ++ b1).toNat, excluded := (b2.extractLsb' 7 1).toNat
        cutOff := (b2.extractLsb' 0 7).toNat, baseLevel := (b3.extractLsb' 5 3).toNat
        places := [(b3.extractLsb' 0 5 ++ b4.extractLsb' 6 2).toNat, (b4.extractLsb' 0 6 ++ b5.extractLsb' 7 1).toNat,
                   (b5.extractLsb' 0 7).toNat] } := by
  have hword : word16At [b0, b1, b2, b3, b4, b5] 0 = b0.toNat * 256 + b1.toNat := rfl
  have htriple : word24At [b0, b1, b2, b3, b4, b5] 3 = (b3.toNat * 256 + b4.toNat) * 256 + b5.toNat := rfl
  have hbyte : byteAt [b0, b1, b2, b3, b4, b5] 2 = b2.toNat := rfl
  simp only [RawRoute.ofBytes, hword, htriple, hbyte, toNat_append_bits, toNat_extractLsb', rawRoute_eq_iff,
    List.cons.injEq, and_true]
  refine ⟨?_, ?_, ?_, ?_, ⟨?_, ?_, ?_⟩, ?_, ?_⟩
  all_goals omega

/-! ### The bytes of PARAMS and CONFLICTS -/

section ParamsBytes

variable (b : List Byte)

theorem alertMask_bits : (RawParams.ofBytes b).alertMask = byteAt b 22 % 32 * 256 + byteAt b 23 := by
  have hlow : byteAt b 23 < 256 := BitVec.isLt _
  change (byteAt b 22 * 256 + byteAt b 23) % 8192 = _
  omega

/-- The notice map has as many places as its count says, four at most. -/
theorem noticeMap_getElem? (i : Nat) : (RawParams.ofBytes b).noticeMap[i]? =
    if i < 4 ∧ i < byteAt b 25 then some (byteAt b (26 + 2 * i), byteAt b (27 + 2 * i)) else none := by
  rw [RawParams.ofBytes, List.getElem?_map]
  split_ifs with h
  · rw [List.getElem?_range (by omega)]
    rfl
  · rw [List.getElem?_eq_none (by rw [List.length_range]; omega)]
    rfl

theorem lines_getElem? (i : Nat) : (RawParams.ofBytes b).lines[i]? =
    if i < 8 then some (byteAt b (34 + i) % 4, byteAt b (34 + i) / 4 % 2) else none := by
  rw [RawParams.ofBytes, List.getElem?_map]
  split_ifs with h
  · rw [List.getElem?_range h]
    rfl
  · rw [List.getElem?_eq_none (by rw [List.length_range]; omega)]
    rfl

theorem rawPairs_bits :
    rawPairs b = (b.drop 1).map (fun x => ((x.extractLsb' 4 4).toNat, (x.extractLsb' 0 4).toNat)) := by
  refine List.map_congr_left fun x _ => ?_
  rw [toNat_extractLsb', toNat_extractLsb', Prod.mk.injEq]
  omega

end ParamsBytes

/-! ### What the numbers name -/

theorem lineOfCode_eq_some_iff (n : Nat) (l : Fin 8) : lineOfCode n = some l ↔ n = l.val := by
  refine ⟨fun h => ?_, lineOfCode_of_val⟩
  obtain ⟨_, hl⟩ := Option.dite_none_right_eq_some.mp h
  exact congrArg Fin.val (Option.some.inj hl)

theorem directionOfCode_eq_a_iff (n : Nat) : directionOfCode n = some .a ↔ n = 1 := by
  unfold directionOfCode
  split <;> simp_all

theorem directionOfCode_eq_b_iff (n : Nat) : directionOfCode n = some .b ↔ n = 2 := by
  unfold directionOfCode
  split <;> simp_all

theorem ofBits_testBit (n : Nat) :
    KindSet.ofBits n = { extend := n.testBit 0, early := n.testBit 1, jump := n.testBit 2 } := by
  simp only [KindSet.ofBits, Nat.testBit_eq_decide_div_mod_eq, Nat.pow_zero, Nat.div_one, Nat.pow_one, Nat.reducePow]

theorem unlisted_eq_some_iff {n v : Nat} (hv : v < 8) : (if n < 8 then some n else none) = some v ↔ n = v := by
  rw [Option.ite_none_right_eq_some, Option.some.injEq]
  exact ⟨fun h => h.2, fun h => ⟨h ▸ hv, h⟩⟩

theorem hasCondition_ofNat (n : Nat) (c : Condition) :
    hasCondition (BitVec.ofNat 13 n) c = n.testBit c.number := by
  have hnumber : c.number < 13 := by cases c <;> decide
  rw [hasCondition, BitVec.getLsbD_ofNat, decide_eq_true hnumber, Bool.true_and]

/-- Approaches in range name themselves in the notice map. -/
theorem noticeMap_named {pairs : List (Nat × Nat)} (h : ∀ q ∈ pairs, q.2 < 8) :
    (pairs.map (fun q => (q.1, Fin.ofNat 8 q.2))).map (fun q => (q.1, q.2.val)) = pairs := by
  rw [List.map_map]
  refine (List.map_congr_left fun q hq => ?_).trans (List.map_id _)
  exact Prod.ext rfl (Nat.mod_eq_of_lt (h q hq))

theorem entry_line_of_getElem? {x : RawParams} {l : Fin 8} {q : Nat × Nat} (h : x.lines[l.val]? = some q) :
    x.entry.lines[l] = lineSettingOf q := by
  rw [entry_line, List.getD_eq_getElem?_getD, h]
  rfl

/-- Settles O10: the bytes of each entry by their bits, and its numbers by what they name. -/
theorem tableByteLayouts : Obligations.TableByteLayouts := by
  refine ⟨approach_ofBytes_bits, route_ofBytes_bits, fun b => ?_, rawPairs_bits, fun s => rfl, fun x => ?_, fun x => rfl,
    fun x => ?_⟩
  · refine ⟨?_, noticeMap_getElem? b, lines_getElem? b⟩
    rw [← alertMask_bits]
    rfl
  · refine ⟨?_, fun l => ⟨lineOfCode_eq_some_iff _ l, lineOfCode_eq_some_iff _ l⟩, directionOfCode_eq_a_iff _,
      directionOfCode_eq_b_iff _⟩
    rw [← ofBits_testBit]
    rfl
  · refine ⟨rfl, fun v hv => unlisted_eq_some_iff hv, fun h => if_neg (by omega), hasCondition_ofNat _,
      congrArg alertPortOfCode, congrArg alertPortOfCode, congrArg alertPortOfCode, noticeMap_named,
      fun l parity accept hl => ?_⟩
    rw [entry_line_of_getElem? hl]
    exact ⟨congrArg parityOfCode, congrArg parityOfCode, congrArg parityOfCode, rfl⟩

end Sys2Proof.Management
end

section
/-! Counting a counter and raising a condition (R192, R195, R198). -/

namespace Sys2Proof.CountersAndAttention

open Sys2Proof.Machine Sys2Proof.Laws Sys2Proof.CorridorPorts Sys2Proof.LoadedTables

/-! ### No two counters share a place: a place gives back its counter -/

theorem portIndex_injective : Function.Injective PortCounter.index :=
  Function.LeftInverse.injective (g := fun i => PortCounter.ofNat i.val) fun c => by cases c <;> rfl

theorem localIndex_injective : Function.Injective LocalCounter.index :=
  Function.LeftInverse.injective (g := fun i => LocalCounter.ofNat i.val) fun c => by cases c <;> rfl

theorem beaconIndex_injective : Function.Injective BeaconCounter.index :=
  Function.LeftInverse.injective (g := fun i => BeaconCounter.ofNat i.val) fun c => by cases c <;> rfl

theorem approachIndex_injective : Function.Injective ApproachCounter.index :=
  Function.LeftInverse.injective (g := fun i => ApproachCounter.ofNat i.val) fun c => by cases c <;> rfl

theorem controllerIndex_injective : Function.Injective ControllerCounter.index :=
  Function.LeftInverse.injective (g := fun i => ControllerCounter.ofNat i.val) fun c => by cases c <;> rfl

theorem noticeIndex_injective : Function.Injective NoticeCounter.index :=
  Function.LeftInverse.injective (g := fun i => NoticeCounter.ofNat i.val) fun c => by cases c <;> rfl

/-- A set of counters written at one place reads as before at every other. -/
theorem getElem_set_of_ne {κ : Type} {n : Nat} {index : κ → Fin n} (hinj : Function.Injective index)
    (set : Vector Count n) (v : Count) {c d : κ} (h : d ≠ c) : (set.set (index c) v)[index d] = set[index d] :=
  Vector.getElem_set_ne _ _ fun heq => h (hinj (Fin.ext heq)).symm

/-- The same, where eight lines or approaches have a set each. -/
theorem getElem_set_set_of_ne {κ : Type} {n : Nat} {index : κ → Fin n} (hinj : Function.Injective index)
    (sets : Vector (Vector Count n) 8) (v : Count) {l m : Fin 8} {c d : κ} (h : (m, d) ≠ (l, c)) :
    (sets.set l (sets[l].set (index c) v))[m][index d] = sets[m][index d] := by
  by_cases hm : m = l
  · subst hm
    have hd : d ≠ c := fun hd => h (hd ▸ rfl)
    simpa using getElem_set_of_ne hinj sets[m] v hd
  · have hval : l.val ≠ m.val := fun heq => hm (Fin.ext heq.symm)
    simp [Vector.getElem_set_ne _ _ hval]

/-- Giving one counter a value leaves every other. -/
theorem get_put_of_ne (cs : Counters) (v : Count) {ref other : CounterRef} (h : other ≠ ref) :
    (cs.put ref v).get other = cs.get other := by
  cases ref with
  | port p c =>
    cases other with
    | port q d =>
      have hd (hpq : q = p) : d ≠ c := fun hd => h (hpq ▸ hd ▸ rfl)
      cases p <;> cases q
      case a.a => exact getElem_set_of_ne portIndex_injective cs.portA v (hd rfl)
      case b.b => exact getElem_set_of_ne portIndex_injective cs.portB v (hd rfl)
      all_goals rfl
    | _ => cases p <;> rfl
  | loc c =>
    cases other with
    | loc d => exact getElem_set_of_ne localIndex_injective cs.locals v fun hd => h (hd ▸ rfl)
    | port q d => cases q <;> rfl
    | _ => rfl
  | beacon l c =>
    cases other with
    | beacon m d => exact getElem_set_set_of_ne beaconIndex_injective cs.beacon v fun hd => h (by cases hd; rfl)
    | port q d => cases q <;> rfl
    | _ => rfl
  | approach l c =>
    cases other with
    | approach m d => exact getElem_set_set_of_ne approachIndex_injective cs.approach v fun hd => h (by cases hd; rfl)
    | port q d => cases q <;> rfl
    | _ => rfl
  | controller c =>
    cases other with
    | controller d => exact getElem_set_of_ne controllerIndex_injective cs.controller v fun hd => h (hd ▸ rfl)
    | port q d => cases q <;> rfl
    | _ => rfl
  | notice c =>
    cases other with
    | notice d => exact getElem_set_of_ne noticeIndex_injective cs.notice v fun hd => h (hd ▸ rfl)
    | port q d => cases q <;> rfl
    | _ => rfl

theorem rolloverGet_put_same (f : RolloverFlags) (g : Group) (b : Bool) : (f.put g b).get g = b := by
  cases g <;> rfl

/-! ### Counting (R192) -/

section Count

variable (s : State) (ref : CounterRef)

theorem counters_count : (s.count ref).counters = s.counters.put ref (s.counters.get ref + 1) := by
  unfold State.count
  dsimp only
  split_ifs
  · rfl
  · rw [raise_counters]
  · rfl

/-- The wrap is the step from the last of the 2^32 values. -/
theorem wraps_iff (v : Count) : v + 1 = 0 ↔ v = 4294967295 := by
  constructor <;> intro h <;> bv_omega

variable {s ref}

theorem count_below_wrap (h : s.counters.get ref ≠ 4294967295) :
    s.count ref = { s with counters := s.counters.put ref (s.counters.get ref + 1) } :=
  count_of_no_wrap s ref (by bv_omega)

theorem count_wrap_flagged (h : s.counters.get ref = 4294967295) (hflag : s.rollover.get ref.group = true) :
    s.count ref = { s with counters := s.counters.put ref (s.counters.get ref + 1) } :=
  (if_pos ((wraps_iff _).mpr h)).trans (if_pos hflag)

theorem count_wrap_clear (h : s.counters.get ref = 4294967295) (hflag : s.rollover.get ref.group = false) :
    s.count ref = { s with counters := s.counters.put ref (s.counters.get ref + 1)
                           rollover := s.rollover.put ref.group true }.raise .counterRollover :=
  (if_pos ((wraps_iff _).mpr h)).trans (if_neg (Bool.eq_false_iff.mp hflag))

end Count

/-! ### Raising (R195, R198) -/

theorem conditionNumber_injective : Function.Injective Condition.number :=
  Function.LeftInverse.injective (g := Condition.ofNat) fun c => by cases c <;> rfl

/-- A condition set in a set adds itself and no other. -/
theorem hasCondition_or_bit (set : BitVec 13) (c d : Condition) :
    hasCondition (set ||| c.bit) d = (hasCondition set d || decide (d = c)) := by
  have hnumber : c.number < 13 := by cases c <;> decide
  have heq : c.number = d.number ↔ d = c := conditionNumber_injective.eq_iff.trans eq_comm
  simp only [hasCondition, Condition.bit, BitVec.getLsbD_or, BitVec.getLsbD_twoPow, hnumber, decide_true,
    Bool.true_and, heq]

theorem raise_of_set {s : State} {c : Condition} (h : hasCondition s.conditions c = true) : s.raise c = s := if_pos h

theorem raise_of_clear {s : State} {c : Condition} (h : hasCondition s.conditions c = false) :
    s.raise c = { s with
      conditions := s.conditions ||| c.bit
      alertDue := s.alertDue || (hasCondition s.params.alertMask c && decide (s.alertCount = 0)) } := by
  have hpending : (!s.alertPending) = decide (s.alertCount = 0) := by
    simp [State.alertPending, Nat.pos_iff_ne_zero]
  rw [← hpending]
  exact if_neg (Bool.eq_false_iff.mp h)

/-- Settles O6: a counting by whether the counter wraps and its group's flag is set, a raising by whether the condition
is set. -/
theorem countingAndRaising : Obligations.CountingAndRaising := by
  refine ⟨fun s ref => ⟨get_count_same s ref, fun other hne => ?_, fun hlow => ?_, fun htop hflag => ?_,
    fun htop hflag => ?_⟩, fun s c => ⟨raise_of_set, fun hclear => ⟨fun d => ?_, ?_⟩⟩⟩
  · rw [counters_count, get_put_of_ne _ _ hne]
  · rw [counters_count, count_below_wrap hlow]
  · rw [counters_count, count_wrap_flagged htop hflag]
  · rw [counters_count, count_wrap_clear htop hflag, raise_rollover]
    exact ⟨rfl, rolloverGet_put_same _ _ _⟩
  · rw [raise_of_clear hclear, hasCondition_or_bit]
  · rw [raise_of_clear hclear]

end Sys2Proof.CountersAndAttention
end

section
/-! The ALERT owed, offered at the end of the event (R198, logs 13 and 28). -/

namespace Sys2Proof.CountersAndAttention

open Sys2Proof.Machine Sys2Proof.Laws Sys2Proof.CorridorPorts Sys2Proof.LoadedTables

/-- The bytes of an ALERT as R6, R9 and R198 write them, in place of the model's own names for them. -/
theorem alertFrame_eq (s : State) :
    s.alertFrame = composeFrame 0 s.address 0x07 63 0
      (bytes16 s.conditions.toNat ++ bytes24 s.corridorTime ++ [if s.timeSet then 1 else 0]) := by
  rw [State.alertFrame, byteOf_bit]
  rfl

theorem alertFrame_units (s : State) : s.alertFrame.units = 2 := by
  have hlength : s.alertFrame.length = 14 := rfl
  rw [LinkFrame.units, hlength]

/-- A copy is appended and counted where its port's partition has room for it (R26, R198). -/
theorem offerAlert_eq (t : State) (f : LinkFrame) (p : Port) :
    t.offerAlert f p =
      if f.units + usedUnits (t.port p).queue ≤ t.partition p then
        { t.setQueue p ((t.port p).queue ++ [{ frame := f, ownAlert := true }]) with alertCount := t.alertCount + 1 }
      else t := by
  by_cases hfits : t.fits p f = true
  · have hqueued : t.enqueue p { frame := f, ownAlert := true } =
        t.setQueue p ((t.port p).queue ++ [{ frame := f, ownAlert := true }]) := if_pos hfits
    have hcount := enqueue_alertCount t p { frame := f, ownAlert := true }
    rw [State.offerAlert, if_pos hfits, if_pos ((fits_iff ..).mp hfits)]
    dsimp only
    rw [hcount, hqueued]
  · rw [State.offerAlert, if_neg hfits, if_neg fun hroom => hfits ((fits_iff ..).mpr hroom)]

theorem endEvent_of_not_due {s : State} (h : s.alertDue = false) : s.endEvent = s := if_neg (Bool.eq_false_iff.mp h)

theorem endEvent_of_due {s : State} (h : s.alertDue = true) :
    s.endEvent = forEach s.params.alertPort.ports (fun p t => t.offerAlert s.alertFrame p) { s with alertDue := false } :=
  if_pos h

/-- Settles O7: the ALERT is offered to each of the alert ports in turn. -/
theorem alertOfferedAtEventEnd : Obligations.AlertOfferedAtEventEnd := by
  intro s s' f offer
  have hframe : s.alertFrame = f := alertFrame_eq s
  have hoffer (p : Port) (t : State) : t.offerAlert s.alertFrame p = offer p t := by
    rw [hframe]
    exact offerAlert_eq t f p
  refine ⟨hframe ▸ alertFrame_units s, endEvent_of_not_due, ?_, ?_, ?_⟩
  all_goals
    intro hdue hport
    rw [endEvent_of_due hdue, hport]
    simp only [AlertPort.ports, forEach_cons, forEach_nil, hoffer, s']

end Sys2Proof.CountersAndAttention
end

section
/-! READ COUNTERS and READ ATTENTION (R193, R194, R196). -/

namespace Sys2Proof.CountersAndAttention

open Sys2Proof.Machine Sys2Proof.Safety Sys2Proof.CorridorPorts Sys2Proof.LoadedTables

/-! ### READ COUNTERS (R193, R194) -/

/-- Clearing a set sets its counters to 0 and no other. -/
theorem get_clearSet (s : State) (g : Group) (refs : List CounterRef) (ref : CounterRef) :
    (s.clearSet g refs).counters.get ref = if ref ∈ refs then 0 else s.counters.get ref := by
  change (refs.foldl (fun cs r => cs.put r 0) s.counters).get ref = _
  generalize s.counters = cs
  induction refs generalizing cs with
  | nil => simp
  | cons r rest ih =>
    rw [List.foldl_cons, ih]
    by_cases hr : ref = r
    · subst hr
      simp [get_put_same]
    · rw [get_put_of_ne cs _ hr]
      simp [hr]

/-- What READ COUNTERS answers for a set (R193). -/
def countersAnswer (b : List Byte) (s : State) (g : Group) (refs : List CounterRef) : Answer :=
  .doneWith ([byteOf (byteAt b 1), byteOf (byteAt b 2), if s.rollover.get g then 1 else 0]
    ++ refs.flatMap (fun ref => bytes32 (s.counters.get ref).toNat))

section Read

variable {b : List Byte} {s : State}

theorem readCountersRequest_good {g : Group} {refs : List CounterRef} (hlen : 4 ≤ b.length) (hclear : byteAt b 3 ≤ 1)
    (hset : counterSet (byteAt b 1) (byteAt b 2) = some (g, refs)) :
    readCountersRequest b s = (if byteAt b 3 = 1 then s.clearSet g refs else s, countersAnswer b s g refs) := by
  rw [readCountersRequest, if_neg (by omega), hset, countersAnswer, ← byteOf_bit]
  dsimp only
  split <;> rfl

theorem readCountersRequest_bad
    (h : b.length < 4 ∨ 1 < byteAt b 3 ∨ counterSet (byteAt b 1) (byteAt b 2) = none) :
    readCountersRequest b s = (s, .plain .badArg) := by
  unfold readCountersRequest
  split
  · rfl
  case isFalse hargs =>
    have hnone : counterSet (byteAt b 1) (byteAt b 2) = none := by
      obtain hlen | hclear | hnone := h
      · exact absurd (.inl hlen) hargs
      · exact absurd (.inr hclear) hargs
      · exact hnone
    rw [hnone]

end Read

/-! ### The sets by group and member (section 10.1) -/

theorem counterSet_beacon (l : Fin 8) :
    counterSet 3 l.val = some (.beacon, beaconCounters.map (.beacon l)) := by
  rw [counterSet, if_pos l.isLt, Fin.ofNat_val_eq_self]

theorem counterSet_activity (ap : Fin 8) :
    counterSet 4 ap.val = some (.approach, activityCounters.map (.approach ap)) := by
  rw [counterSet, if_pos ap.isLt, Fin.ofNat_val_eq_self]

theorem counterSet_outcomes (ap : Fin 8) :
    counterSet 4 (8 + ap.val) = some (.approach, outcomeCounters.map (.approach ap)) := by
  rw [counterSet, if_neg (by omega), if_pos (by omega), Nat.add_sub_cancel_left, Fin.ofNat_val_eq_self]

theorem counterSet_unknown_line {member : Nat} (h : 8 ≤ member) : counterSet 3 member = none := if_neg (by omega)

theorem counterSet_unknown_half {member : Nat} (h : 16 ≤ member) : counterSet 4 member = none := by
  rw [counterSet, if_neg (by omega), if_neg (by omega)]

theorem counterSet_unknown_group {group : Nat} (member : Nat) (h : 7 ≤ group) : counterSet group member = none := by
  unfold counterSet
  split
  case h_8 => rfl
  all_goals omega

/-- Settles O53: READ COUNTERS by its arguments and the set they name, the sets group by group, and READ ATTENTION. -/
theorem countersAndAttentionRead : Obligations.CountersAndAttentionRead := by
  refine ⟨fun s x rest => ⟨fun h hlen g refs hset => ⟨fun hkeep => ?_, fun hclear => ?_⟩, fun h hbad => ?_, fun h => ?_⟩,
    fun member => ⟨rfl, rfl, rfl, ?_, counterSet_unknown_line, fun ap => ⟨?_, ?_⟩, counterSet_unknown_half, rfl, rfl,
      fun group => counterSet_unknown_group member⟩⟩
  · refine request_of_code h rfl ((readCountersRequest_good hlen (by omega) hset).trans ?_)
    rw [if_neg (by omega)]
    rfl
  · refine ⟨(afterTake s rest).clearSet g refs, ?_, rfl, get_clearSet (afterTake s rest) g refs⟩
    refine request_of_code h rfl ((readCountersRequest_good hlen (by omega) hset).trans ?_)
    rw [if_pos hclear]
    rfl
  · exact request_of_code h rfl (readCountersRequest_bad hbad)
  · exact request_of_code h rfl rfl
  · rintro l rfl
    exact counterSet_beacon l
  · rintro rfl
    exact counterSet_activity ap
  · rintro rfl
    exact counterSet_outcomes ap

end Sys2Proof.CountersAndAttention
end

section
/-! The machine's step on a queue that holds a command; `step_idle` is its other half, on an empty queue. -/

namespace Sys2Proof.MachineStep

open Sys2Proof.Machine

/-- Settles O1: the step's match on the queue takes its second branch, whatever command stands in front and whatever waits
behind it. -/
theorem stepRunsFrontCommand : Obligations.StepRunsFrontCommand := by
  intro c s rest hfront
  rw [step, hfront]

end Sys2Proof.MachineStep
end
